-- ==== Sys2Proof/Word.lean ====
section
/-!
DEFINITION. The two word types of the M65C02A model.
-/

namespace Sys2Proof

/-- One byte: the unit of memory and of the data bus (R43). -/
abbrev Byte := BitVec 8

/-- A 16-bit register, address or operand (R20). -/
abbrev Word := BitVec 16

end Sys2Proof
end

