-- ==== Sys2Proof/Config.lean ====
section
/-!
DEFINITION. What an implementation of the core fixes (rule R9), the readings between which the spec's source does not
decide, and the free values, which nothing fixes.
-/

namespace Sys2Proof

/-- `ISA_VARIANT` (R9, R108): the instruction set of opcode columns 7 and F. -/
inductive Variant where
  | hll
  | w65c02s
  deriving DecidableEq, Repr

/-- `UNUSED_OPCODE` (R9, R112): what an unassigned opcode does. -/
inductive UnusedOpcode where
  | nop1
  | invTrap
  deriving DecidableEq, Repr

/-- `OSX_INDEX_BIAS`, `BP_BIAS` (R9, R162, R176): 0 or 1, added to an index or base. -/
inductive Bias where
  | zero
  | one
  deriving DecidableEq, Repr

/-- `ENT_IP_OFFSET` (R9, R246): 2, or 0. -/
inductive EntOffset where
  | two
  | zero
  deriving DecidableEq, Repr

/-- `PHR_BIAS` (R9, R300): -1, or 0. -/
inductive PhrBias where
  | minusOne
  | zero
  deriving DecidableEq, Repr

/-- `BRK_PUSH_OFFSET` (R9, R520): 1, or 2. -/
inductive BrkOffset where
  | one
  | two
  deriving DecidableEq, Repr

/-- `osx` on a mode indexed by X (R176, conflict C10): S replaces X_TOS, or X_TOS stays the index. -/
inductive OsxIndex where
  | substitute
  | keepX
  deriving DecidableEq, Repr

/-- `osx` on a `bp,B` opcode (R162, conflict C11): the mode becomes relative to S, or nothing changes. -/
inductive OsxBase where
  | stackRelative
  | noEffect
  deriving DecidableEq, Repr

/-- A zero-page index in page 1 (R140, conflict C16): the printed formula drops the page, or the page is kept. -/
inductive Page1Index where
  | dropPage
  | keepPage
  deriving DecidableEq, Repr

/-- A sum that leaves the page of a locked stack pointer (R160 and U8, R302 and U14): plain 16-bit, or within the
page. It is the sum alone: the second byte of an operand is at the next address in both readings (log 18). -/
inductive StackSum where
  | plain
  | pageLocked
  deriving DecidableEq, Repr

/-- The parameters of one machine. No step changes them. -/
structure Config where
  /-- `ISA_VARIANT` (R108). -/
  variant : Variant
  /-- `VEC_RST` (R541). -/
  vecRst : Word
  /-- `VEC_NMI` (R541). -/
  vecNmi : Word
  /-- `VEC_IRQ` (R541). -/
  vecIrq : Word
  /-- `VEC_BRK` (R541). -/
  vecBrk : Word
  /-- `VEC_INV` (R541), used only where `unusedOpcode` is `invTrap`. -/
  vecInv : Word
  /-- `UNUSED_OPCODE` (R112). -/
  unusedOpcode : UnusedOpcode
  /-- `OSX_INDEX_BIAS` (R176), open: 0 or 1 (log 15). -/
  osxIndexBias : Bias
  /-- `BP_BIAS` (R162). -/
  bpBias : Bias
  /-- `ENT_IP_OFFSET` (R246). -/
  entIpOffset : EntOffset
  /-- `PHR_BIAS` (R300). -/
  phrBias : PhrBias
  /-- `BRK_PUSH_OFFSET` (R520). -/
  brkPushOffset : BrkOffset
  /-- The reading of conflict C10 (R176). -/
  osxIndex : OsxIndex
  /-- The reading of conflict C11 (R162). -/
  osxBase : OsxBase
  /-- The reading of conflict C16 (R140). -/
  page1Index : Page1Index
  /-- `sp,S` that leaves a locked page (R160, U8). -/
  spSum : StackSum
  /-- `adj` that leaves a locked page (R302, U14). -/
  adjSum : StackSum
  deriving DecidableEq, Repr

/-- The default parameters. DESIGN CHOICE: the HLL variant (D1 leaves it open). PRESUMED: the 6502's vectors, which
R541 names as customary. DESIGN CHOICE: `OSX_INDEX_BIAS` is 0, which R9, R176 and D13 leave open without a default
(log 15), and VEC_INV is 0xFFFE (log 4). The others are the defaults that R9 and the rules name, and for the readings
the one the rule states. -/
def Config.default : Config where
  variant := .hll
  vecRst := 0xFFFC
  vecNmi := 0xFFFA
  vecIrq := 0xFFFE
  vecBrk := 0xFFFE
  vecInv := 0xFFFE
  unusedOpcode := .nop1
  osxIndexBias := .zero
  bpBias := .zero
  entIpOffset := .two
  phrBias := .minusOne
  brkPushOffset := .one
  osxIndex := .substitute
  osxBase := .stackRelative
  page1Index := .dropPage
  spSum := .plain
  adjSum := .plain

/-- The bits that the spec calls unspecified (rule R11, `any`). No value of it can be proved: a draw is this constant
at the counter of the state. -/
opaque Config.freeBit : Nat → Bool

/-- The words that the spec calls unspecified (rule R11, `any`), drawn as `Config.freeBit` is. -/
opaque Config.freeWord : Nat → BitVec 16

end Sys2Proof
end

