-- ==== Sys2Proof/Syntax.lean ====
section
/-!
DEFINITION. The instructions: one constructor for each row of spec/opcode_table.json, where the rows of one mnemonic
that differ in the memory addressing mode share a constructor whose operand is the mode; and the prefix flags that
decoding and execution read.
-/

namespace Sys2Proof

/-- The five prefix flag registers (R41). -/
structure PrefixFlags where
  /-- Set by `ind` and `isz` (R193, R195): one more level of indirection, or the extended instruction. -/
  ind : Bool
  /-- Set by `siz` and `isz` (R194, R195): 16-bit operation, or the extended instruction. -/
  siz : Bool
  /-- Set by `oax` (R196): A and X exchange their roles. -/
  oax : Bool
  /-- Set by `oay` (R197): A and Y exchange their roles. -/
  oay : Bool
  /-- Set by `osx` (R198): the stack pointer and X exchange their roles. -/
  osx : Bool
  deriving DecidableEq, Repr

/-- No prefix (R41): the flags at the start of an instruction that follows no prefix instruction. -/
def PrefixFlags.clear : PrefixFlags where
  ind := false
  siz := false
  oax := false
  oay := false
  osx := false

/-- The operand of an IMM-format instruction (R101): one byte, or two bytes when SIZ is set. -/
inductive Imm where
  | b8 (value : Byte)
  | b16 (value : Word)
  deriving DecidableEq, Repr

/-- The memory addressing modes of the opcode map (R105 to R107, R130), with their operand bytes. -/
inductive Mode where
  /-- `zp` (R136). -/
  | zp (b : Byte)
  /-- `zp,X` (R140). -/
  | zpX (b : Byte)
  /-- `zp,Y` (R145). -/
  | zpY (b : Byte)
  /-- `(zp)` (R146). -/
  | zpInd (b : Byte)
  /-- `(zp,X)` (R152). -/
  | zpXInd (b : Byte)
  /-- `(zp),Y` (R153). -/
  | zpIndY (b : Byte)
  /-- `abs` (R155). -/
  | abs (w : Word)
  /-- `abs,X` (R156). -/
  | absX (w : Word)
  /-- `abs,Y` (R157). -/
  | absY (w : Word)
  /-- `sp,S` (R160). -/
  | sp (b : Byte)
  /-- `(sp,S),Y` (R161). -/
  | spIndY (b : Byte)
  /-- `bp,B` (R162). -/
  | bp (b : Byte)
  /-- `ip,I++` (R170). -/
  | ip (b : Byte)
  deriving DecidableEq, Repr

/-- A mode without its operand bytes. -/
inductive ModeKind where
  | zp | zpX | zpY | zpInd | zpXInd | zpIndY | abs | absX | absY | sp | spIndY | bp | ip
  deriving DecidableEq, Repr

/-- The kind of a mode. -/
def Mode.kind : Mode → ModeKind
  | .zp _ => .zp
  | .zpX _ => .zpX
  | .zpY _ => .zpY
  | .zpInd _ => .zpInd
  | .zpXInd _ => .zpXInd
  | .zpIndY _ => .zpIndY
  | .abs _ => .abs
  | .absX _ => .absX
  | .absY _ => .absY
  | .sp _ => .sp
  | .spIndY _ => .spIndY
  | .bp _ => .bp
  | .ip _ => .ip

/-- The instructions (R105, R106, R107, R110). Each docstring gives the operand text, the opcode byte, the prefix that
makes an extended form, the variant if only one has it, and the rule with the meaning. -/
inductive Instr where
  /-- `brk #imm`, 00 (R520). -/
  | brk (imm : Byte)
  /-- `ora` on memory: (zp,X) 01, sp,S 03, zp 05, bp,B 07 (HLL), abs 0D, ip,I++ 0F (HLL), (zp),Y 11, (zp) 12,
  (sp,S),Y 13, zp,X 15, abs,Y 19, abs,X 1D (R384). -/
  | ora (m : Mode)
  /-- `cop #imm`, 02 (R310). -/
  | cop (imm : Byte)
  /-- `tsb` on memory: zp 04, abs 0C, bp,B 97 (HLL), ip,I++ 9F (HLL) (R391). -/
  | tsb (m : Mode)
  /-- `asl` on memory: zp 06, abs 0E, zp,X 16, bp,B 17 (HLL), abs,X 1E, ip,I++ 1F (HLL) (R425). -/
  | asl (m : Mode)
  /-- `rmb0 zp`, 07, W65C02S only (R393). -/
  | rmb0 (zp : Byte)
  /-- `php`, 08 (R284). -/
  | php
  /-- `ora #imm`, 09 (R384). -/
  | oraImm (imm : Imm)
  /-- `asl A`, 0A (R425). -/
  | aslA
  /-- `dup`, 0B (R222). -/
  | dup
  /-- `bbr0 zp,rel`, 0F, W65C02S only (R495). -/
  | bbr0 (zp : Byte) (rel : Byte)
  /-- `bpl rel`, 10 (R481). -/
  | bpl (rel : Byte)
  /-- `trb` on memory: zp 14, abs 1C, bp,B B7 (HLL), ip,I++ BF (HLL) (R392). -/
  | trb (m : Mode)
  /-- `rmb1 zp`, 17, W65C02S only (R393). -/
  | rmb1 (zp : Byte)
  /-- `clc`, 18 (R401). -/
  | clc
  /-- `inc A`, 1A (R452). -/
  | incA
  /-- `swp`, 1B (R223). -/
  | swp
  /-- `bbr1 zp,rel`, 1F, W65C02S only (R495). -/
  | bbr1 (zp : Byte) (rel : Byte)
  /-- `jsr abs`, 20 (R505). -/
  | jsr (abs : Word)
  /-- `and` on memory: (zp,X) 21, sp,S 23, zp 25, bp,B 27 (HLL), abs 2D, ip,I++ 2F (HLL), (zp),Y 31, (zp) 32,
  (sp,S),Y 33, zp,X 35, abs,Y 39, abs,X 3D (R385). -/
  | and (m : Mode)
  /-- `adj #imm`, 22 (R302). -/
  | adj (imm : Byte)
  /-- `bit` on memory: zp 24, abs 2C, zp,X 34, abs,X 3C (R390). -/
  | bit (m : Mode)
  /-- `rol` on memory: zp 26, abs 2E, zp,X 36, bp,B 37 (HLL), abs,X 3E, ip,I++ 3F (HLL) (R426). -/
  | rol (m : Mode)
  /-- `rmb2 zp`, 27, W65C02S only (R393). -/
  | rmb2 (zp : Byte)
  /-- `plp`, 28 (R288). -/
  | plp
  /-- `and #imm`, 29 (R385). -/
  | andImm (imm : Imm)
  /-- `rol A`, 2A (R426). -/
  | rolA
  /-- `rot`, 2B (R224). -/
  | rot
  /-- `bbr2 zp,rel`, 2F, W65C02S only (R495). -/
  | bbr2 (zp : Byte) (rel : Byte)
  /-- `bmi rel`, 30 (R482). -/
  | bmi (rel : Byte)
  /-- `rmb3 zp`, 37, W65C02S only (R393). -/
  | rmb3 (zp : Byte)
  /-- `sec`, 38 (R402). -/
  | sec
  /-- `dec A`, 3A (R453). -/
  | decA
  /-- `nxt`, 3B (R244). -/
  | nxt
  /-- `bbr3 zp,rel`, 3F, W65C02S only (R495). -/
  | bbr3 (zp : Byte) (rel : Byte)
  /-- `rti`, 40 (R510). -/
  | rti
  /-- `eor` on memory: (zp,X) 41, sp,S 43, zp 45, bp,B 47 (HLL), abs 4D, ip,I++ 4F (HLL), (zp),Y 51, (zp) 52,
  (sp,S),Y 53, zp,X 55, abs,Y 59, abs,X 5D (R386). -/
  | eor (m : Mode)
  /-- `xma sp,S`, 42 (R304). -/
  | xma (sp : Byte)
  /-- `mov #imm`, 44 (R312). -/
  | mov (imm : Byte)
  /-- `lsr` on memory: zp 46, abs 4E, zp,X 56, bp,B 57 (HLL), abs,X 5E, ip,I++ 5F (HLL) (R427). -/
  | lsr (m : Mode)
  /-- `rmb4 zp`, 47, W65C02S only (R393). -/
  | rmb4 (zp : Byte)
  /-- `pha`, 48 (R281). -/
  | pha
  /-- `eor #imm`, 49 (R386). -/
  | eorImm (imm : Imm)
  /-- `lsr A`, 4A (R427). -/
  | lsrA
  /-- `phi`, 4B (R248). -/
  | phi
  /-- `jmp abs`, 4C (R500). -/
  | jmpAbs (abs : Word)
  /-- `bbr4 zp,rel`, 4F, W65C02S only (R495). -/
  | bbr4 (zp : Byte) (rel : Byte)
  /-- `bvc rel`, 50 (R483). -/
  | bvc (rel : Byte)
  /-- `psh #imm`, 54 (R290). -/
  | pshImm (imm : Word)
  /-- `rmb5 zp`, 57, W65C02S only (R393). -/
  | rmb5 (zp : Byte)
  /-- `cli`, 58 (R403). -/
  | cli
  /-- `phy`, 5A (R283). -/
  | phy
  /-- `ini`, 5B (R253). -/
  | ini
  /-- `phr rel16`, 5C (R300). -/
  | phr (rel : Word)
  /-- `bbr5 zp,rel`, 5F, W65C02S only (R495). -/
  | bbr5 (zp : Byte) (rel : Byte)
  /-- `rts`, 60 (R506). -/
  | rts
  /-- `adc` on memory: (zp,X) 61, sp,S 63, zp 65, bp,B 67 (HLL), abs 6D, (zp),Y 71, (zp) 72, (sp,S),Y 73, zp,X
  75, abs,Y 79, abs,X 7D (R445). -/
  | adc (m : Mode)
  /-- `add ip,I++`, 62 (R460). -/
  | add (ip : Byte)
  /-- `stz` on memory: zp 64, zp,X 74, abs 9C, abs,X 9E (R343). -/
  | stz (m : Mode)
  /-- `ror` on memory: zp 66, abs 6E, zp,X 76, bp,B 77 (HLL), abs,X 7E, ip,I++ 7F (HLL) (R428). -/
  | ror (m : Mode)
  /-- `rmb6 zp`, 67, W65C02S only (R393). -/
  | rmb6 (zp : Byte)
  /-- `pla`, 68 (R285). -/
  | pla
  /-- `adc #imm`, 69 (R445). -/
  | adcImm (imm : Imm)
  /-- `ror A`, 6A (R428). -/
  | rorA
  /-- `pli`, 6B (R249). -/
  | pli
  /-- `jmp (abs)`, 6C (R501). -/
  | jmpInd (abs : Word)
  /-- `UNASSIGNED`, 6F, HLL only (R112). -/
  | unassigned6F
  /-- `bbr6 zp,rel`, 6F, W65C02S only (R495). -/
  | bbr6 (zp : Byte) (rel : Byte)
  /-- `bvs rel`, 70 (R484). -/
  | bvs (rel : Byte)
  /-- `rmb7 zp`, 77, W65C02S only (R393). -/
  | rmb7 (zp : Byte)
  /-- `sei`, 78 (R404). -/
  | sei
  /-- `ply`, 7A (R287). -/
  | ply
  /-- `ent`, 7B (R246). -/
  | ent
  /-- `jmp (abs,X)`, 7C (R502). -/
  | jmpIndX (abs : Word)
  /-- `bbr7 zp,rel`, 7F, W65C02S only (R495). -/
  | bbr7 (zp : Byte) (rel : Byte)
  /-- `bra rel`, 80 (R485). -/
  | bra (rel : Byte)
  /-- `sta` on memory: (zp,X) 81, sp,S 83, zp 85, bp,B 87 (HLL), abs 8D, (zp),Y 91, (zp) 92, (sp,S),Y 93, zp,X
  95, abs,Y 99, abs,X 9D, ip,I++ C2 (R261, R340). -/
  | sta (m : Mode)
  /-- `UNASSIGNED`, 82 (R112). -/
  | unassigned82
  /-- `sty` on memory: zp 84, abs 8C, zp,X 94 (R342). -/
  | sty (m : Mode)
  /-- `stx` on memory: zp 86, abs 8E, zp,Y 96 (R341). -/
  | stx (m : Mode)
  /-- `smb0 zp`, 87, W65C02S only (R394). -/
  | smb0 (zp : Byte)
  /-- `dey`, 88 (R457). -/
  | dey
  /-- `bit #imm`, 89 (R390). -/
  | bitImm (imm : Imm)
  /-- `txa`, 8A (R352). -/
  | txa
  /-- `osx`, 8B (R198). -/
  | osx
  /-- `UNASSIGNED`, 8F, HLL only (R112). -/
  | unassigned8F
  /-- `bbs0 zp,rel`, 8F, W65C02S only (R496). -/
  | bbs0 (zp : Byte) (rel : Byte)
  /-- `bcc rel`, 90 (R486). -/
  | bcc (rel : Byte)
  /-- `smb1 zp`, 97, W65C02S only (R394). -/
  | smb1 (zp : Byte)
  /-- `tya`, 98 (R354). -/
  | tya
  /-- `txs`, 9A (R355). -/
  | txs
  /-- `ind`, 9B (R193). -/
  | ind
  /-- `bbs1 zp,rel`, 9F, W65C02S only (R496). -/
  | bbs1 (zp : Byte) (rel : Byte)
  /-- `ldy #imm`, A0 (R337). -/
  | ldyImm (imm : Imm)
  /-- `lda` on memory: (zp,X) A1, sp,S A3, zp A5, bp,B A7 (HLL), abs AD, (zp),Y B1, (zp) B2, (sp,S),Y B3, zp,X
  B5, abs,Y B9, abs,X BD, ip,I++ E2 (R260, R335). -/
  | lda (m : Mode)
  /-- `ldx #imm`, A2 (R336). -/
  | ldxImm (imm : Imm)
  /-- `ldy` on memory: zp A4, abs AC, zp,X B4, abs,X BC (R337). -/
  | ldy (m : Mode)
  /-- `ldx` on memory: zp A6, abs AE, zp,Y B6, abs,Y BE (R336). -/
  | ldx (m : Mode)
  /-- `smb2 zp`, A7, W65C02S only (R394). -/
  | smb2 (zp : Byte)
  /-- `tay`, A8 (R353). -/
  | tay
  /-- `lda #imm`, A9 (R335). -/
  | ldaImm (imm : Imm)
  /-- `tax`, AA (R351). -/
  | tax
  /-- `siz`, AB (R194). -/
  | siz
  /-- `UNASSIGNED`, AF, HLL only (R112). -/
  | unassignedAF
  /-- `bbs2 zp,rel`, AF, W65C02S only (R496). -/
  | bbs2 (zp : Byte) (rel : Byte)
  /-- `bcs rel`, B0 (R487). -/
  | bcs (rel : Byte)
  /-- `smb3 zp`, B7, W65C02S only (R394). -/
  | smb3 (zp : Byte)
  /-- `clv`, B8 (R405). -/
  | clv
  /-- `tsx`, BA (R356). -/
  | tsx
  /-- `isz`, BB (R195). -/
  | isz
  /-- `bbs3 zp,rel`, BF, W65C02S only (R496). -/
  | bbs3 (zp : Byte) (rel : Byte)
  /-- `cpy #imm`, C0 (R449). -/
  | cpyImm (imm : Imm)
  /-- `cmp` on memory: (zp,X) C1, sp,S C3, zp C5, bp,B C7 (HLL), abs CD, ip,I++ CF (HLL), (zp),Y D1, (zp) D2,
  (sp,S),Y D3, zp,X D5, abs,Y D9, abs,X DD (R447). -/
  | cmp (m : Mode)
  /-- `cpy` on memory: zp C4, abs CC (R449). -/
  | cpy (m : Mode)
  /-- `dec` on memory: zp C6, abs CE, zp,X D6, bp,B D7 (HLL), abs,X DE, ip,I++ DF (HLL) (R451). -/
  | dec (m : Mode)
  /-- `smb4 zp`, C7, W65C02S only (R394). -/
  | smb4 (zp : Byte)
  /-- `iny`, C8 (R455). -/
  | iny
  /-- `cmp #imm`, C9 (R447). -/
  | cmpImm (imm : Imm)
  /-- `dex`, CA (R456). -/
  | dex
  /-- `wai`, CB (R320). -/
  | wai
  /-- `bbs4 zp,rel`, CF, W65C02S only (R496). -/
  | bbs4 (zp : Byte) (rel : Byte)
  /-- `bne rel`, D0 (R489). -/
  | bne (rel : Byte)
  /-- `psh` on memory: zp D4, abs DC (R291, R292). -/
  | psh (m : Mode)
  /-- `smb5 zp`, D7, W65C02S only (R394). -/
  | smb5 (zp : Byte)
  /-- `cld`, D8 (R406). -/
  | cld
  /-- `phx`, DA (R282). -/
  | phx
  /-- `stp`, DB (R321). -/
  | stp
  /-- `bbs5 zp,rel`, DF, W65C02S only (R496). -/
  | bbs5 (zp : Byte) (rel : Byte)
  /-- `cpx #imm`, E0 (R448). -/
  | cpxImm (imm : Imm)
  /-- `sbc` on memory: (zp,X) E1, sp,S E3, zp E5, bp,B E7 (HLL), abs ED, (zp),Y F1, (zp) F2, (sp,S),Y F3, zp,X
  F5, abs,Y F9, abs,X FD (R446). -/
  | sbc (m : Mode)
  /-- `cpx` on memory: zp E4, abs EC (R448). -/
  | cpx (m : Mode)
  /-- `inc` on memory: zp E6, abs EE, zp,X F6, bp,B F7 (HLL), abs,X FE, ip,I++ FF (HLL) (R450). -/
  | inc (m : Mode)
  /-- `smb6 zp`, E7, W65C02S only (R394). -/
  | smb6 (zp : Byte)
  /-- `inx`, E8 (R454). -/
  | inx
  /-- `sbc #imm`, E9 (R446). -/
  | sbcImm (imm : Imm)
  /-- `nop`, EA (R318). -/
  | nop
  /-- `oax`, EB (R196). -/
  | oax
  /-- `sub ip,I++`, EF, HLL only (R461). -/
  | sub (ip : Byte)
  /-- `bbs6 zp,rel`, EF, W65C02S only (R496). -/
  | bbs6 (zp : Byte) (rel : Byte)
  /-- `beq rel`, F0 (R491). -/
  | beq (rel : Byte)
  /-- `pul` on memory: zp F4, abs FC (R293, R294). -/
  | pul (m : Mode)
  /-- `smb7 zp`, F7, W65C02S only (R394). -/
  | smb7 (zp : Byte)
  /-- `sed`, F8 (R407). -/
  | sed
  /-- `plx`, FA (R286). -/
  | plx
  /-- `oay`, FB (R197). -/
  | oay
  /-- `bbs7 zp,rel`, FF, W65C02S only (R496). -/
  | bbs7 (zp : Byte) (rel : Byte)
  /-- `tai`, 0B after `ind` (R226). -/
  | tai
  /-- `tia`, 0B after `siz` (R227). -/
  | tia
  /-- `xai`, 0B after `isz` (R228). -/
  | xai
  /-- `bsw`, 1B after `ind` (R229). -/
  | bsw
  /-- `rev`, 2B after `ind` (R230). -/
  | rev
  /-- `nxt (ITC)`, 3B after `ind` (R245). -/
  | nxtItc
  /-- `ent (ITC)`, 7B after `ind` (R247). -/
  | entItc
  /-- `phw`, 4B after `ind` (R250). -/
  | phw
  /-- `inw`, 5B after `ind` (R252). -/
  | inw
  /-- `plw`, 6B after `ind` (R251). -/
  | plw
  /-- `asr A`, 4A after `ind` (R433). -/
  | asr
  /-- `asr.w A`, 4A after `isz` (R433). -/
  | asrW
  /-- `asl A`, 0A after `ind` (R432). -/
  | aslAV
  /-- `rol A`, 2A after `ind` (R432). -/
  | rolAV
  /-- `inc A`, 1A after `ind` (R466). -/
  | incAC
  /-- `dec A`, 3A after `ind` (R466). -/
  | decAC
  /-- `jrl rel16`, 80 after `ind` (R488). -/
  | jrl (rel : Word)
  /-- `jmi rel16`, 30 after `ind` (R488). -/
  | jmi (rel : Word)
  /-- `jpl rel16`, 10 after `ind` (R488). -/
  | jpl (rel : Word)
  /-- `jvs rel16`, 70 after `ind` (R488). -/
  | jvs (rel : Word)
  /-- `jvc rel16`, 50 after `ind` (R488). -/
  | jvc (rel : Word)
  /-- `jeq rel16`, F0 after `ind` (R488). -/
  | jeq (rel : Word)
  /-- `jne rel16`, D0 after `ind` (R488). -/
  | jne (rel : Word)
  /-- `jcs rel16`, B0 after `ind` (R488). -/
  | jcs (rel : Word)
  /-- `jcc rel16`, 90 after `ind` (R488). -/
  | jcc (rel : Word)
  /-- `ble rel8`, 30 after `siz` (R490). -/
  | ble (rel : Byte)
  /-- `jle rel16`, 30 after `isz` (R490). -/
  | jle (rel : Word)
  /-- `bgt rel8`, 10 after `siz` (R490). -/
  | bgt (rel : Byte)
  /-- `jgt rel16`, 10 after `isz` (R490). -/
  | jgt (rel : Word)
  /-- `blt rel8`, 70 after `siz` (R490). -/
  | blt (rel : Byte)
  /-- `jlt rel16`, 70 after `isz` (R490). -/
  | jlt (rel : Word)
  /-- `bge rel8`, 50 after `siz` (R490). -/
  | bge (rel : Byte)
  /-- `jge rel16`, 50 after `isz` (R490). -/
  | jge (rel : Word)
  /-- `bhs rel8`, F0 after `siz` (R490). -/
  | bhs (rel : Byte)
  /-- `jhs rel16`, F0 after `isz` (R490). -/
  | jhs (rel : Word)
  /-- `blo rel8`, D0 after `siz` (R490). -/
  | blo (rel : Byte)
  /-- `jlo rel16`, D0 after `isz` (R490). -/
  | jlo (rel : Word)
  /-- `bhi rel8`, B0 after `siz` (R490). -/
  | bhi (rel : Byte)
  /-- `jhi rel16`, B0 after `isz` (R490). -/
  | jhi (rel : Word)
  /-- `bls rel8`, 90 after `siz` (R490). -/
  | bls (rel : Byte)
  /-- `jls rel16`, 90 after `isz` (R490). -/
  | jls (rel : Word)
  /-- `lds #imm`, A2 after `osx` (R200). -/
  | ldsImm (imm : Imm)
  /-- `lds` on memory after `osx`: zp A6, zp,Y B6, abs AE, abs,Y BE (R200). -/
  | lds (m : Mode)
  /-- `sts` on memory after `osx`: zp 86, zp,Y 96, abs 8E (R200). -/
  | sts (m : Mode)
  /-- `cps #imm`, E0 after `osx` (R200). -/
  | cpsImm (imm : Imm)
  /-- `cps` on memory after `osx`: zp E4, abs EC (R200). -/
  | cps (m : Mode)
  /-- `tas`, AA after `osx` (R200). -/
  | tas
  /-- `tsa`, 8A after `osx` (R200). -/
  | tsa
  /-- `phs`, DA after `osx` (R200). -/
  | phs
  /-- `pls`, FA after `osx` (R200). -/
  | pls
  /-- `ins`, E8 after `osx` (R200). -/
  | ins
  /-- `des`, CA after `osx` (R200). -/
  | des
  deriving DecidableEq, Repr

end Sys2Proof
end

