-- ==== Sys2Proof/WellFormed.lean ====
section
/-!
DEFINITION. Which instructions an encoding can express: the variant that has the opcode, the prefix flags that select
the form, the addressing modes of the mnemonic, and the width of an immediate operand.
-/

namespace Sys2Proof

/-- What a row of the opcode table asks for. `none` asks for nothing. -/
structure Row where
  /-- The variant that has the row (R107, R108). -/
  variant : Option Variant
  /-- The value of IND that selects this form of the opcode (R110). -/
  ind : Option Bool
  /-- The value of SIZ that selects this form of the opcode (R110). -/
  siz : Option Bool
  /-- The value of OSX that selects this form of the opcode (R110). -/
  osx : Option Bool
  deriving DecidableEq, Repr

/-- A row of both variants with one form for all prefix flags. -/
def Row.any : Row where
  variant := none
  ind := none
  siz := none
  osx := none

/-- A row of the HLL variant only (R107). -/
def Row.hll : Row := { Row.any with variant := some .hll }

/-- A row of the W65C02S variant only (R107). -/
def Row.rockwell : Row := { Row.any with variant := some .w65c02s }

/-- A form that IND selects (R205). -/
def Row.onInd (b : Bool) : Row := { Row.any with ind := some b }

/-- A form that IND and SIZ select (R205 to R207). -/
def Row.onIndSiz (b c : Bool) : Row := { Row.any with ind := some b, siz := some c }

/-- A form that OSX selects (R200). -/
def Row.onOsx (b : Bool) : Row := { Row.any with osx := some b }

/-- What the rows of each instruction ask for. The variant of a memory mode is in `Instr.mode?`. -/
def Instr.row : Instr → Row
  | .brk _ => .any
  | .ora _ => .any
  | .cop _ => .any
  | .tsb _ => .any
  | .asl _ => .any
  | .rmb0 _ => .rockwell
  | .php => .any
  | .oraImm _ => .any
  | .aslA => .onInd false
  | .dup => .onIndSiz false false
  | .bbr0 _ _ => .rockwell
  | .bpl _ => .onIndSiz false false
  | .trb _ => .any
  | .rmb1 _ => .rockwell
  | .clc => .any
  | .incA => .onInd false
  | .swp => .onInd false
  | .bbr1 _ _ => .rockwell
  | .jsr _ => .any
  | .and _ => .any
  | .adj _ => .any
  | .bit _ => .any
  | .rol _ => .any
  | .rmb2 _ => .rockwell
  | .plp => .any
  | .andImm _ => .any
  | .rolA => .onInd false
  | .rot => .onInd false
  | .bbr2 _ _ => .rockwell
  | .bmi _ => .onIndSiz false false
  | .rmb3 _ => .rockwell
  | .sec => .any
  | .decA => .onInd false
  | .nxt => .onInd false
  | .bbr3 _ _ => .rockwell
  | .rti => .any
  | .eor _ => .any
  | .xma _ => .any
  | .mov _ => .any
  | .lsr _ => .any
  | .rmb4 _ => .rockwell
  | .pha => .any
  | .eorImm _ => .any
  | .lsrA => .onInd false
  | .phi => .onInd false
  | .jmpAbs _ => .any
  | .bbr4 _ _ => .rockwell
  | .bvc _ => .onIndSiz false false
  | .pshImm _ => .any
  | .rmb5 _ => .rockwell
  | .cli => .any
  | .phy => .any
  | .ini => .onInd false
  | .phr _ => .any
  | .bbr5 _ _ => .rockwell
  | .rts => .any
  | .adc _ => .any
  | .add _ => .any
  | .stz _ => .any
  | .ror _ => .any
  | .rmb6 _ => .rockwell
  | .pla => .any
  | .adcImm _ => .any
  | .rorA => .any
  | .pli => .onInd false
  | .jmpInd _ => .any
  | .unassigned6F => .hll
  | .bbr6 _ _ => .rockwell
  | .bvs _ => .onIndSiz false false
  | .rmb7 _ => .rockwell
  | .sei => .any
  | .ply => .any
  | .ent => .onInd false
  | .jmpIndX _ => .any
  | .bbr7 _ _ => .rockwell
  | .bra _ => .onInd false
  | .sta _ => .any
  | .unassigned82 => .any
  | .sty _ => .any
  | .stx _ => .onOsx false
  | .smb0 _ => .rockwell
  | .dey => .any
  | .bitImm _ => .any
  | .txa => .onOsx false
  | .osx => .any
  | .unassigned8F => .hll
  | .bbs0 _ _ => .rockwell
  | .bcc _ => .onIndSiz false false
  | .smb1 _ => .rockwell
  | .tya => .any
  | .txs => .any
  | .ind => .any
  | .bbs1 _ _ => .rockwell
  | .ldyImm _ => .any
  | .lda _ => .any
  | .ldxImm _ => .onOsx false
  | .ldy _ => .any
  | .ldx _ => .onOsx false
  | .smb2 _ => .rockwell
  | .tay => .any
  | .ldaImm _ => .any
  | .tax => .onOsx false
  | .siz => .any
  | .unassignedAF => .hll
  | .bbs2 _ _ => .rockwell
  | .bcs _ => .onIndSiz false false
  | .smb3 _ => .rockwell
  | .clv => .any
  | .tsx => .any
  | .isz => .any
  | .bbs3 _ _ => .rockwell
  | .cpyImm _ => .any
  | .cmp _ => .any
  | .cpy _ => .any
  | .dec _ => .any
  | .smb4 _ => .rockwell
  | .iny => .any
  | .cmpImm _ => .any
  | .dex => .onOsx false
  | .wai => .any
  | .bbs4 _ _ => .rockwell
  | .bne _ => .onIndSiz false false
  | .psh _ => .any
  | .smb5 _ => .rockwell
  | .cld => .any
  | .phx => .onOsx false
  | .stp => .any
  | .bbs5 _ _ => .rockwell
  | .cpxImm _ => .onOsx false
  | .sbc _ => .any
  | .cpx _ => .onOsx false
  | .inc _ => .any
  | .smb6 _ => .rockwell
  | .inx => .onOsx false
  | .sbcImm _ => .any
  | .nop => .any
  | .oax => .any
  | .sub _ => .hll
  | .bbs6 _ _ => .rockwell
  | .beq _ => .onIndSiz false false
  | .pul _ => .any
  | .smb7 _ => .rockwell
  | .sed => .any
  | .plx => .onOsx false
  | .oay => .any
  | .bbs7 _ _ => .rockwell
  | .tai => .onIndSiz true false
  | .tia => .onIndSiz false true
  | .xai => .onIndSiz true true
  | .bsw => .onInd true
  | .rev => .onInd true
  | .nxtItc => .onInd true
  | .entItc => .onInd true
  | .phw => .onInd true
  | .inw => .onInd true
  | .plw => .onInd true
  | .asr => .onIndSiz true false
  | .asrW => .onIndSiz true true
  | .aslAV => .onInd true
  | .rolAV => .onInd true
  | .incAC => .onInd true
  | .decAC => .onInd true
  | .jrl _ => .onInd true
  | .jmi _ => .onIndSiz true false
  | .jpl _ => .onIndSiz true false
  | .jvs _ => .onIndSiz true false
  | .jvc _ => .onIndSiz true false
  | .jeq _ => .onIndSiz true false
  | .jne _ => .onIndSiz true false
  | .jcs _ => .onIndSiz true false
  | .jcc _ => .onIndSiz true false
  | .ble _ => .onIndSiz false true
  | .jle _ => .onIndSiz true true
  | .bgt _ => .onIndSiz false true
  | .jgt _ => .onIndSiz true true
  | .blt _ => .onIndSiz false true
  | .jlt _ => .onIndSiz true true
  | .bge _ => .onIndSiz false true
  | .jge _ => .onIndSiz true true
  | .bhs _ => .onIndSiz false true
  | .jhs _ => .onIndSiz true true
  | .blo _ => .onIndSiz false true
  | .jlo _ => .onIndSiz true true
  | .bhi _ => .onIndSiz false true
  | .jhi _ => .onIndSiz true true
  | .bls _ => .onIndSiz false true
  | .jls _ => .onIndSiz true true
  | .ldsImm _ => .onOsx true
  | .lds _ => .onOsx true
  | .sts _ => .onOsx true
  | .cpsImm _ => .onOsx true
  | .cps _ => .onOsx true
  | .tas => .onOsx true
  | .tsa => .onOsx true
  | .phs => .onOsx true
  | .pls => .onOsx true
  | .ins => .onOsx true
  | .des => .onOsx true

/-- The immediate operand whose width SIZ selects, for the instructions of format IMM (R101). -/
def Instr.imm? : Instr → Option Imm
  | .brk _ => none
  | .ora _ => none
  | .cop _ => none
  | .tsb _ => none
  | .asl _ => none
  | .rmb0 _ => none
  | .php => none
  | .oraImm imm => some imm
  | .aslA => none
  | .dup => none
  | .bbr0 _ _ => none
  | .bpl _ => none
  | .trb _ => none
  | .rmb1 _ => none
  | .clc => none
  | .incA => none
  | .swp => none
  | .bbr1 _ _ => none
  | .jsr _ => none
  | .and _ => none
  | .adj _ => none
  | .bit _ => none
  | .rol _ => none
  | .rmb2 _ => none
  | .plp => none
  | .andImm imm => some imm
  | .rolA => none
  | .rot => none
  | .bbr2 _ _ => none
  | .bmi _ => none
  | .rmb3 _ => none
  | .sec => none
  | .decA => none
  | .nxt => none
  | .bbr3 _ _ => none
  | .rti => none
  | .eor _ => none
  | .xma _ => none
  | .mov _ => none
  | .lsr _ => none
  | .rmb4 _ => none
  | .pha => none
  | .eorImm imm => some imm
  | .lsrA => none
  | .phi => none
  | .jmpAbs _ => none
  | .bbr4 _ _ => none
  | .bvc _ => none
  | .pshImm _ => none
  | .rmb5 _ => none
  | .cli => none
  | .phy => none
  | .ini => none
  | .phr _ => none
  | .bbr5 _ _ => none
  | .rts => none
  | .adc _ => none
  | .add _ => none
  | .stz _ => none
  | .ror _ => none
  | .rmb6 _ => none
  | .pla => none
  | .adcImm imm => some imm
  | .rorA => none
  | .pli => none
  | .jmpInd _ => none
  | .unassigned6F => none
  | .bbr6 _ _ => none
  | .bvs _ => none
  | .rmb7 _ => none
  | .sei => none
  | .ply => none
  | .ent => none
  | .jmpIndX _ => none
  | .bbr7 _ _ => none
  | .bra _ => none
  | .sta _ => none
  | .unassigned82 => none
  | .sty _ => none
  | .stx _ => none
  | .smb0 _ => none
  | .dey => none
  | .bitImm imm => some imm
  | .txa => none
  | .osx => none
  | .unassigned8F => none
  | .bbs0 _ _ => none
  | .bcc _ => none
  | .smb1 _ => none
  | .tya => none
  | .txs => none
  | .ind => none
  | .bbs1 _ _ => none
  | .ldyImm imm => some imm
  | .lda _ => none
  | .ldxImm imm => some imm
  | .ldy _ => none
  | .ldx _ => none
  | .smb2 _ => none
  | .tay => none
  | .ldaImm imm => some imm
  | .tax => none
  | .siz => none
  | .unassignedAF => none
  | .bbs2 _ _ => none
  | .bcs _ => none
  | .smb3 _ => none
  | .clv => none
  | .tsx => none
  | .isz => none
  | .bbs3 _ _ => none
  | .cpyImm imm => some imm
  | .cmp _ => none
  | .cpy _ => none
  | .dec _ => none
  | .smb4 _ => none
  | .iny => none
  | .cmpImm imm => some imm
  | .dex => none
  | .wai => none
  | .bbs4 _ _ => none
  | .bne _ => none
  | .psh _ => none
  | .smb5 _ => none
  | .cld => none
  | .phx => none
  | .stp => none
  | .bbs5 _ _ => none
  | .cpxImm imm => some imm
  | .sbc _ => none
  | .cpx _ => none
  | .inc _ => none
  | .smb6 _ => none
  | .inx => none
  | .sbcImm imm => some imm
  | .nop => none
  | .oax => none
  | .sub _ => none
  | .bbs6 _ _ => none
  | .beq _ => none
  | .pul _ => none
  | .smb7 _ => none
  | .sed => none
  | .plx => none
  | .oay => none
  | .bbs7 _ _ => none
  | .tai => none
  | .tia => none
  | .xai => none
  | .bsw => none
  | .rev => none
  | .nxtItc => none
  | .entItc => none
  | .phw => none
  | .inw => none
  | .plw => none
  | .asr => none
  | .asrW => none
  | .aslAV => none
  | .rolAV => none
  | .incAC => none
  | .decAC => none
  | .jrl _ => none
  | .jmi _ => none
  | .jpl _ => none
  | .jvs _ => none
  | .jvc _ => none
  | .jeq _ => none
  | .jne _ => none
  | .jcs _ => none
  | .jcc _ => none
  | .ble _ => none
  | .jle _ => none
  | .bgt _ => none
  | .jgt _ => none
  | .blt _ => none
  | .jlt _ => none
  | .bge _ => none
  | .jge _ => none
  | .bhs _ => none
  | .jhs _ => none
  | .blo _ => none
  | .jlo _ => none
  | .bhi _ => none
  | .jhi _ => none
  | .bls _ => none
  | .jls _ => none
  | .ldsImm imm => some imm
  | .lds _ => none
  | .sts _ => none
  | .cpsImm imm => some imm
  | .cps _ => none
  | .tas => none
  | .tsa => none
  | .phs => none
  | .pls => none
  | .ins => none
  | .des => none

/-- One memory mode of a mnemonic, with the variant that has it. -/
structure ModeRow where
  kind : ModeKind
  variant : Option Variant
  deriving DecidableEq, Repr

/-- Modes that both variants have. -/
def bothModes (ks : List ModeKind) : List ModeRow := ks.map fun k => { kind := k, variant := none }

/-- Modes that only the HLL variant has (R107). -/
def hllModes (ks : List ModeKind) : List ModeRow := ks.map fun k => { kind := k, variant := some .hll }

/-- The modes of the accumulator instructions (R335, R382, R444), but for `ip,I++`. -/
def accModes : List ModeRow :=
  bothModes [.zp, .zpX, .abs, .absX, .absY, .zpXInd, .zpIndY, .zpInd, .sp, .spIndY] ++ hllModes [.bp]

/-- The modes of the shifts, `inc` and `dec` (R423, R450). -/
def rmwModes : List ModeRow := bothModes [.zp, .zpX, .abs, .absX] ++ hllModes [.bp, .ip]

/-- The memory mode of an instruction, with the modes that its mnemonic has. -/
def Instr.mode? : Instr → Option (Mode × List ModeRow)
  | .brk _ => none
  | .ora m => some (m, accModes ++ hllModes [.ip])
  | .cop _ => none
  | .tsb m => some (m, bothModes [.zp, .abs] ++ hllModes [.bp, .ip])
  | .asl m => some (m, rmwModes)
  | .rmb0 _ => none
  | .php => none
  | .oraImm _ => none
  | .aslA => none
  | .dup => none
  | .bbr0 _ _ => none
  | .bpl _ => none
  | .trb m => some (m, bothModes [.zp, .abs] ++ hllModes [.bp, .ip])
  | .rmb1 _ => none
  | .clc => none
  | .incA => none
  | .swp => none
  | .bbr1 _ _ => none
  | .jsr _ => none
  | .and m => some (m, accModes ++ hllModes [.ip])
  | .adj _ => none
  | .bit m => some (m, bothModes [.zp, .abs, .zpX, .absX])
  | .rol m => some (m, rmwModes)
  | .rmb2 _ => none
  | .plp => none
  | .andImm _ => none
  | .rolA => none
  | .rot => none
  | .bbr2 _ _ => none
  | .bmi _ => none
  | .rmb3 _ => none
  | .sec => none
  | .decA => none
  | .nxt => none
  | .bbr3 _ _ => none
  | .rti => none
  | .eor m => some (m, accModes ++ hllModes [.ip])
  | .xma _ => none
  | .mov _ => none
  | .lsr m => some (m, rmwModes)
  | .rmb4 _ => none
  | .pha => none
  | .eorImm _ => none
  | .lsrA => none
  | .phi => none
  | .jmpAbs _ => none
  | .bbr4 _ _ => none
  | .bvc _ => none
  | .pshImm _ => none
  | .rmb5 _ => none
  | .cli => none
  | .phy => none
  | .ini => none
  | .phr _ => none
  | .bbr5 _ _ => none
  | .rts => none
  | .adc m => some (m, accModes)
  | .add _ => none
  | .stz m => some (m, bothModes [.zp, .zpX, .abs, .absX])
  | .ror m => some (m, rmwModes)
  | .rmb6 _ => none
  | .pla => none
  | .adcImm _ => none
  | .rorA => none
  | .pli => none
  | .jmpInd _ => none
  | .unassigned6F => none
  | .bbr6 _ _ => none
  | .bvs _ => none
  | .rmb7 _ => none
  | .sei => none
  | .ply => none
  | .ent => none
  | .jmpIndX _ => none
  | .bbr7 _ _ => none
  | .bra _ => none
  | .sta m => some (m, accModes ++ bothModes [.ip])
  | .unassigned82 => none
  | .sty m => some (m, bothModes [.zp, .abs, .zpX])
  | .stx m => some (m, bothModes [.zp, .abs, .zpY])
  | .smb0 _ => none
  | .dey => none
  | .bitImm _ => none
  | .txa => none
  | .osx => none
  | .unassigned8F => none
  | .bbs0 _ _ => none
  | .bcc _ => none
  | .smb1 _ => none
  | .tya => none
  | .txs => none
  | .ind => none
  | .bbs1 _ _ => none
  | .ldyImm _ => none
  | .lda m => some (m, accModes ++ bothModes [.ip])
  | .ldxImm _ => none
  | .ldy m => some (m, bothModes [.zp, .abs, .zpX, .absX])
  | .ldx m => some (m, bothModes [.zp, .abs, .zpY, .absY])
  | .smb2 _ => none
  | .tay => none
  | .ldaImm _ => none
  | .tax => none
  | .siz => none
  | .unassignedAF => none
  | .bbs2 _ _ => none
  | .bcs _ => none
  | .smb3 _ => none
  | .clv => none
  | .tsx => none
  | .isz => none
  | .bbs3 _ _ => none
  | .cpyImm _ => none
  | .cmp m => some (m, accModes ++ hllModes [.ip])
  | .cpy m => some (m, bothModes [.zp, .abs])
  | .dec m => some (m, rmwModes)
  | .smb4 _ => none
  | .iny => none
  | .cmpImm _ => none
  | .dex => none
  | .wai => none
  | .bbs4 _ _ => none
  | .bne _ => none
  | .psh m => some (m, bothModes [.zp, .abs])
  | .smb5 _ => none
  | .cld => none
  | .phx => none
  | .stp => none
  | .bbs5 _ _ => none
  | .cpxImm _ => none
  | .sbc m => some (m, accModes)
  | .cpx m => some (m, bothModes [.zp, .abs])
  | .inc m => some (m, rmwModes)
  | .smb6 _ => none
  | .inx => none
  | .sbcImm _ => none
  | .nop => none
  | .oax => none
  | .sub _ => none
  | .bbs6 _ _ => none
  | .beq _ => none
  | .pul m => some (m, bothModes [.zp, .abs])
  | .smb7 _ => none
  | .sed => none
  | .plx => none
  | .oay => none
  | .bbs7 _ _ => none
  | .tai => none
  | .tia => none
  | .xai => none
  | .bsw => none
  | .rev => none
  | .nxtItc => none
  | .entItc => none
  | .phw => none
  | .inw => none
  | .plw => none
  | .asr => none
  | .asrW => none
  | .aslAV => none
  | .rolAV => none
  | .incAC => none
  | .decAC => none
  | .jrl _ => none
  | .jmi _ => none
  | .jpl _ => none
  | .jvs _ => none
  | .jvc _ => none
  | .jeq _ => none
  | .jne _ => none
  | .jcs _ => none
  | .jcc _ => none
  | .ble _ => none
  | .jle _ => none
  | .bgt _ => none
  | .jgt _ => none
  | .blt _ => none
  | .jlt _ => none
  | .bge _ => none
  | .jge _ => none
  | .bhs _ => none
  | .jhs _ => none
  | .blo _ => none
  | .jlo _ => none
  | .bhi _ => none
  | .jhi _ => none
  | .bls _ => none
  | .jls _ => none
  | .ldsImm _ => none
  | .lds m => some (m, bothModes [.zp, .zpY, .abs, .absY])
  | .sts m => some (m, bothModes [.zp, .zpY, .abs])
  | .cpsImm _ => none
  | .cps m => some (m, bothModes [.zp, .abs])
  | .tas => none
  | .tsa => none
  | .phs => none
  | .pls => none
  | .ins => none
  | .des => none

/-- A requirement of a row, held against the value at hand. -/
def meets {α : Type} [DecidableEq α] (want : Option α) (value : α) : Bool :=
  match want with
  | none => true
  | some w => decide (w = value)

/-- The variant has the instruction (R107). -/
def Instr.variantOk (v : Variant) (i : Instr) : Bool := meets i.row.variant v

/-- The prefix flags select this form of its opcode (R110, R205 to R207, R200). -/
def Instr.formOk (f : PrefixFlags) (i : Instr) : Bool :=
  meets i.row.ind f.ind && meets i.row.siz f.siz && meets i.row.osx f.osx

/-- The mnemonic has the addressing mode, in this variant (R105 to R107). -/
def Instr.modeOk (v : Variant) (i : Instr) : Bool :=
  match i.mode? with
  | none => true
  | some (m, rows) => rows.any fun r => decide (r.kind = m.kind) && meets r.variant v

/-- An immediate operand has the width that SIZ gives it (R101). -/
def Instr.widthOk (f : PrefixFlags) (i : Instr) : Bool :=
  match i.imm? with
  | none => true
  | some (.b8 _) => !f.siz
  | some (.b16 _) => f.siz

/-- The instruction is one that a core of this variant can fetch under these prefix flags. -/
def Instr.wellFormed (v : Variant) (f : PrefixFlags) (i : Instr) : Bool :=
  i.variantOk v && i.formOk f && i.modeOk v && i.widthOk f

end Sys2Proof
end

