-- ==== Sys2Proof/Decode.lean ====
section
/-!
DEFINITION. From bytes to instructions and back (30_encoding.md): the bit helpers, the opcode map, the decoder, which is
total on any bytes and rejects by name, and the encoder.
-/

namespace Sys2Proof

/-! ### Bytes and words -/

/-- Bits 7 to 0. -/
def loByte (v : Word) : Byte := v.extractLsb' 0 8

/-- Bits 15 to 8. -/
def hiByte (v : Word) : Byte := v.extractLsb' 8 8

/-- `{hi, lo}` (R10). -/
def joinBytes (hi lo : Byte) : Word := hi ++ lo

/-- `zext_16` of a byte (R11). -/
def zext (b : Byte) : Word := b.setWidth 16

/-- `sext_16` of a byte (R11). -/
def sext (b : Byte) : Word := b.signExtend 16

/-- The value of an immediate operand (R103): `{0x00, b1}` or `{b2, b1}`. -/
def Imm.value : Imm → Word
  | .b8 b => zext b
  | .b16 w => w

/-- How many bytes an immediate operand has. -/
def Imm.size : Imm → Nat
  | .b8 _ => 1
  | .b16 _ => 2

/-! ### The opcode map -/

/-- What the bytes after an opcode are (the formats of R101), with the instruction they make. -/
inductive Shape where
  /-- IMP: no operand byte. -/
  | imp (i : Instr)
  /-- IMM8, ZP, SP, BP, IPI, and REL with an 8-bit displacement: one operand byte. -/
  | byte (k : Byte → Instr)
  /-- IMM16, ABS, REL16, and REL with a 16-bit displacement: two operand bytes, the low one first. -/
  | word (k : Word → Instr)
  /-- IMM: one operand byte, or two when SIZ is set. -/
  | imm (k : Imm → Instr)
  /-- ZPREL: a zero-page address and an 8-bit displacement. -/
  | zprel (k : Byte → Byte → Instr)

/-- One of two cells, by a flag or by the variant. -/
def Shape.select (b : Bool) (t e : Shape) : Shape := if b then t else e

/-- How many operand bytes follow the opcode (R101, R102). -/
def Shape.operands (f : PrefixFlags) : Shape → Nat
  | .imp _ => 0
  | .byte _ => 1
  | .word _ => 2
  | .imm _ => if f.siz then 2 else 1
  | .zprel _ => 2

/-- The instruction made of the two bytes that follow the opcode (R103). A shape with fewer operand bytes does not
look at the others. -/
def Shape.fill (f : PrefixFlags) (b1 b2 : Byte) : Shape → Instr
  | .imp i => i
  | .byte k => k b1
  | .word k => k (joinBytes b2 b1)
  | .imm k => k (if f.siz then .b16 (joinBytes b2 b1) else .b8 b1)
  | .zprel k => k b1 b2

/-- Row 0 of the opcode map (R105 to R107), with the extended forms of R110. -/
def opcodeRow0 (v : Variant) (f : PrefixFlags) : List Shape := [
  .byte .brk,
  .byte fun o => .ora (.zpXInd o),
  .byte .cop,
  .byte fun o => .ora (.sp o),
  .byte fun o => .tsb (.zp o),
  .byte fun o => .ora (.zp o),
  .byte fun o => .asl (.zp o),
  .select (decide (v = .hll)) (.byte fun o => .ora (.bp o)) (.byte .rmb0),
  .imp .php,
  .imm .oraImm,
  .select f.ind (.imp .aslAV) (.imp .aslA),
  .select f.ind (.select f.siz (.imp .xai) (.imp .tai)) (.select f.siz (.imp .tia) (.imp .dup)),
  .word fun o => .tsb (.abs o),
  .word fun o => .ora (.abs o),
  .word fun o => .asl (.abs o),
  .select (decide (v = .hll)) (.byte fun o => .ora (.ip o)) (.zprel .bbr0)]

/-- Row 1 of the opcode map (R105 to R107), with the extended forms of R110. -/
def opcodeRow1 (v : Variant) (f : PrefixFlags) : List Shape := [
  .select f.ind (.select f.siz (.word .jgt) (.word .jpl)) (.select f.siz (.byte .bgt) (.byte .bpl)),
  .byte fun o => .ora (.zpIndY o),
  .byte fun o => .ora (.zpInd o),
  .byte fun o => .ora (.spIndY o),
  .byte fun o => .trb (.zp o),
  .byte fun o => .ora (.zpX o),
  .byte fun o => .asl (.zpX o),
  .select (decide (v = .hll)) (.byte fun o => .asl (.bp o)) (.byte .rmb1),
  .imp .clc,
  .word fun o => .ora (.absY o),
  .select f.ind (.imp .incAC) (.imp .incA),
  .select f.ind (.imp .bsw) (.imp .swp),
  .word fun o => .trb (.abs o),
  .word fun o => .ora (.absX o),
  .word fun o => .asl (.absX o),
  .select (decide (v = .hll)) (.byte fun o => .asl (.ip o)) (.zprel .bbr1)]

/-- Row 2 of the opcode map (R105 to R107), with the extended forms of R110. -/
def opcodeRow2 (v : Variant) (f : PrefixFlags) : List Shape := [
  .word .jsr,
  .byte fun o => .and (.zpXInd o),
  .byte .adj,
  .byte fun o => .and (.sp o),
  .byte fun o => .bit (.zp o),
  .byte fun o => .and (.zp o),
  .byte fun o => .rol (.zp o),
  .select (decide (v = .hll)) (.byte fun o => .and (.bp o)) (.byte .rmb2),
  .imp .plp,
  .imm .andImm,
  .select f.ind (.imp .rolAV) (.imp .rolA),
  .select f.ind (.imp .rev) (.imp .rot),
  .word fun o => .bit (.abs o),
  .word fun o => .and (.abs o),
  .word fun o => .rol (.abs o),
  .select (decide (v = .hll)) (.byte fun o => .and (.ip o)) (.zprel .bbr2)]

/-- Row 3 of the opcode map (R105 to R107), with the extended forms of R110. -/
def opcodeRow3 (v : Variant) (f : PrefixFlags) : List Shape := [
  .select f.ind (.select f.siz (.word .jle) (.word .jmi)) (.select f.siz (.byte .ble) (.byte .bmi)),
  .byte fun o => .and (.zpIndY o),
  .byte fun o => .and (.zpInd o),
  .byte fun o => .and (.spIndY o),
  .byte fun o => .bit (.zpX o),
  .byte fun o => .and (.zpX o),
  .byte fun o => .rol (.zpX o),
  .select (decide (v = .hll)) (.byte fun o => .rol (.bp o)) (.byte .rmb3),
  .imp .sec,
  .word fun o => .and (.absY o),
  .select f.ind (.imp .decAC) (.imp .decA),
  .select f.ind (.imp .nxtItc) (.imp .nxt),
  .word fun o => .bit (.absX o),
  .word fun o => .and (.absX o),
  .word fun o => .rol (.absX o),
  .select (decide (v = .hll)) (.byte fun o => .rol (.ip o)) (.zprel .bbr3)]

/-- Row 4 of the opcode map (R105 to R107), with the extended forms of R110. -/
def opcodeRow4 (v : Variant) (f : PrefixFlags) : List Shape := [
  .imp .rti,
  .byte fun o => .eor (.zpXInd o),
  .byte .xma,
  .byte fun o => .eor (.sp o),
  .byte .mov,
  .byte fun o => .eor (.zp o),
  .byte fun o => .lsr (.zp o),
  .select (decide (v = .hll)) (.byte fun o => .eor (.bp o)) (.byte .rmb4),
  .imp .pha,
  .imm .eorImm,
  .select f.ind (.select f.siz (.imp .asrW) (.imp .asr)) (.imp .lsrA),
  .select f.ind (.imp .phw) (.imp .phi),
  .word .jmpAbs,
  .word fun o => .eor (.abs o),
  .word fun o => .lsr (.abs o),
  .select (decide (v = .hll)) (.byte fun o => .eor (.ip o)) (.zprel .bbr4)]

/-- Row 5 of the opcode map (R105 to R107), with the extended forms of R110. -/
def opcodeRow5 (v : Variant) (f : PrefixFlags) : List Shape := [
  .select f.ind (.select f.siz (.word .jge) (.word .jvc)) (.select f.siz (.byte .bge) (.byte .bvc)),
  .byte fun o => .eor (.zpIndY o),
  .byte fun o => .eor (.zpInd o),
  .byte fun o => .eor (.spIndY o),
  .word .pshImm,
  .byte fun o => .eor (.zpX o),
  .byte fun o => .lsr (.zpX o),
  .select (decide (v = .hll)) (.byte fun o => .lsr (.bp o)) (.byte .rmb5),
  .imp .cli,
  .word fun o => .eor (.absY o),
  .imp .phy,
  .select f.ind (.imp .inw) (.imp .ini),
  .word .phr,
  .word fun o => .eor (.absX o),
  .word fun o => .lsr (.absX o),
  .select (decide (v = .hll)) (.byte fun o => .lsr (.ip o)) (.zprel .bbr5)]

/-- Row 6 of the opcode map (R105 to R107), with the extended forms of R110. -/
def opcodeRow6 (v : Variant) (f : PrefixFlags) : List Shape := [
  .imp .rts,
  .byte fun o => .adc (.zpXInd o),
  .byte .add,
  .byte fun o => .adc (.sp o),
  .byte fun o => .stz (.zp o),
  .byte fun o => .adc (.zp o),
  .byte fun o => .ror (.zp o),
  .select (decide (v = .hll)) (.byte fun o => .adc (.bp o)) (.byte .rmb6),
  .imp .pla,
  .imm .adcImm,
  .imp .rorA,
  .select f.ind (.imp .plw) (.imp .pli),
  .word .jmpInd,
  .word fun o => .adc (.abs o),
  .word fun o => .ror (.abs o),
  .select (decide (v = .hll)) (.imp .unassigned6F) (.zprel .bbr6)]

/-- Row 7 of the opcode map (R105 to R107), with the extended forms of R110. -/
def opcodeRow7 (v : Variant) (f : PrefixFlags) : List Shape := [
  .select f.ind (.select f.siz (.word .jlt) (.word .jvs)) (.select f.siz (.byte .blt) (.byte .bvs)),
  .byte fun o => .adc (.zpIndY o),
  .byte fun o => .adc (.zpInd o),
  .byte fun o => .adc (.spIndY o),
  .byte fun o => .stz (.zpX o),
  .byte fun o => .adc (.zpX o),
  .byte fun o => .ror (.zpX o),
  .select (decide (v = .hll)) (.byte fun o => .ror (.bp o)) (.byte .rmb7),
  .imp .sei,
  .word fun o => .adc (.absY o),
  .imp .ply,
  .select f.ind (.imp .entItc) (.imp .ent),
  .word .jmpIndX,
  .word fun o => .adc (.absX o),
  .word fun o => .ror (.absX o),
  .select (decide (v = .hll)) (.byte fun o => .ror (.ip o)) (.zprel .bbr7)]

/-- Row 8 of the opcode map (R105 to R107), with the extended forms of R110. -/
def opcodeRow8 (v : Variant) (f : PrefixFlags) : List Shape := [
  .select f.ind (.word .jrl) (.byte .bra),
  .byte fun o => .sta (.zpXInd o),
  .imp .unassigned82,
  .byte fun o => .sta (.sp o),
  .byte fun o => .sty (.zp o),
  .byte fun o => .sta (.zp o),
  .select f.osx (.byte fun o => .sts (.zp o)) (.byte fun o => .stx (.zp o)),
  .select (decide (v = .hll)) (.byte fun o => .sta (.bp o)) (.byte .smb0),
  .imp .dey,
  .imm .bitImm,
  .select f.osx (.imp .tsa) (.imp .txa),
  .imp .osx,
  .word fun o => .sty (.abs o),
  .word fun o => .sta (.abs o),
  .select f.osx (.word fun o => .sts (.abs o)) (.word fun o => .stx (.abs o)),
  .select (decide (v = .hll)) (.imp .unassigned8F) (.zprel .bbs0)]

/-- Row 9 of the opcode map (R105 to R107), with the extended forms of R110. -/
def opcodeRow9 (v : Variant) (f : PrefixFlags) : List Shape := [
  .select f.ind (.select f.siz (.word .jls) (.word .jcc)) (.select f.siz (.byte .bls) (.byte .bcc)),
  .byte fun o => .sta (.zpIndY o),
  .byte fun o => .sta (.zpInd o),
  .byte fun o => .sta (.spIndY o),
  .byte fun o => .sty (.zpX o),
  .byte fun o => .sta (.zpX o),
  .select f.osx (.byte fun o => .sts (.zpY o)) (.byte fun o => .stx (.zpY o)),
  .select (decide (v = .hll)) (.byte fun o => .tsb (.bp o)) (.byte .smb1),
  .imp .tya,
  .word fun o => .sta (.absY o),
  .imp .txs,
  .imp .ind,
  .word fun o => .stz (.abs o),
  .word fun o => .sta (.absX o),
  .word fun o => .stz (.absX o),
  .select (decide (v = .hll)) (.byte fun o => .tsb (.ip o)) (.zprel .bbs1)]

/-- Row A of the opcode map (R105 to R107), with the extended forms of R110. -/
def opcodeRowA (v : Variant) (f : PrefixFlags) : List Shape := [
  .imm .ldyImm,
  .byte fun o => .lda (.zpXInd o),
  .select f.osx (.imm .ldsImm) (.imm .ldxImm),
  .byte fun o => .lda (.sp o),
  .byte fun o => .ldy (.zp o),
  .byte fun o => .lda (.zp o),
  .select f.osx (.byte fun o => .lds (.zp o)) (.byte fun o => .ldx (.zp o)),
  .select (decide (v = .hll)) (.byte fun o => .lda (.bp o)) (.byte .smb2),
  .imp .tay,
  .imm .ldaImm,
  .select f.osx (.imp .tas) (.imp .tax),
  .imp .siz,
  .word fun o => .ldy (.abs o),
  .word fun o => .lda (.abs o),
  .select f.osx (.word fun o => .lds (.abs o)) (.word fun o => .ldx (.abs o)),
  .select (decide (v = .hll)) (.imp .unassignedAF) (.zprel .bbs2)]

/-- Row B of the opcode map (R105 to R107), with the extended forms of R110. -/
def opcodeRowB (v : Variant) (f : PrefixFlags) : List Shape := [
  .select f.ind (.select f.siz (.word .jhi) (.word .jcs)) (.select f.siz (.byte .bhi) (.byte .bcs)),
  .byte fun o => .lda (.zpIndY o),
  .byte fun o => .lda (.zpInd o),
  .byte fun o => .lda (.spIndY o),
  .byte fun o => .ldy (.zpX o),
  .byte fun o => .lda (.zpX o),
  .select f.osx (.byte fun o => .lds (.zpY o)) (.byte fun o => .ldx (.zpY o)),
  .select (decide (v = .hll)) (.byte fun o => .trb (.bp o)) (.byte .smb3),
  .imp .clv,
  .word fun o => .lda (.absY o),
  .imp .tsx,
  .imp .isz,
  .word fun o => .ldy (.absX o),
  .word fun o => .lda (.absX o),
  .select f.osx (.word fun o => .lds (.absY o)) (.word fun o => .ldx (.absY o)),
  .select (decide (v = .hll)) (.byte fun o => .trb (.ip o)) (.zprel .bbs3)]

/-- Row C of the opcode map (R105 to R107), with the extended forms of R110. -/
def opcodeRowC (v : Variant) (f : PrefixFlags) : List Shape := [
  .imm .cpyImm,
  .byte fun o => .cmp (.zpXInd o),
  .byte fun o => .sta (.ip o),
  .byte fun o => .cmp (.sp o),
  .byte fun o => .cpy (.zp o),
  .byte fun o => .cmp (.zp o),
  .byte fun o => .dec (.zp o),
  .select (decide (v = .hll)) (.byte fun o => .cmp (.bp o)) (.byte .smb4),
  .imp .iny,
  .imm .cmpImm,
  .select f.osx (.imp .des) (.imp .dex),
  .imp .wai,
  .word fun o => .cpy (.abs o),
  .word fun o => .cmp (.abs o),
  .word fun o => .dec (.abs o),
  .select (decide (v = .hll)) (.byte fun o => .cmp (.ip o)) (.zprel .bbs4)]

/-- Row D of the opcode map (R105 to R107), with the extended forms of R110. -/
def opcodeRowD (v : Variant) (f : PrefixFlags) : List Shape := [
  .select f.ind (.select f.siz (.word .jlo) (.word .jne)) (.select f.siz (.byte .blo) (.byte .bne)),
  .byte fun o => .cmp (.zpIndY o),
  .byte fun o => .cmp (.zpInd o),
  .byte fun o => .cmp (.spIndY o),
  .byte fun o => .psh (.zp o),
  .byte fun o => .cmp (.zpX o),
  .byte fun o => .dec (.zpX o),
  .select (decide (v = .hll)) (.byte fun o => .dec (.bp o)) (.byte .smb5),
  .imp .cld,
  .word fun o => .cmp (.absY o),
  .select f.osx (.imp .phs) (.imp .phx),
  .imp .stp,
  .word fun o => .psh (.abs o),
  .word fun o => .cmp (.absX o),
  .word fun o => .dec (.absX o),
  .select (decide (v = .hll)) (.byte fun o => .dec (.ip o)) (.zprel .bbs5)]

/-- Row E of the opcode map (R105 to R107), with the extended forms of R110. -/
def opcodeRowE (v : Variant) (f : PrefixFlags) : List Shape := [
  .select f.osx (.imm .cpsImm) (.imm .cpxImm),
  .byte fun o => .sbc (.zpXInd o),
  .byte fun o => .lda (.ip o),
  .byte fun o => .sbc (.sp o),
  .select f.osx (.byte fun o => .cps (.zp o)) (.byte fun o => .cpx (.zp o)),
  .byte fun o => .sbc (.zp o),
  .byte fun o => .inc (.zp o),
  .select (decide (v = .hll)) (.byte fun o => .sbc (.bp o)) (.byte .smb6),
  .select f.osx (.imp .ins) (.imp .inx),
  .imm .sbcImm,
  .imp .nop,
  .imp .oax,
  .select f.osx (.word fun o => .cps (.abs o)) (.word fun o => .cpx (.abs o)),
  .word fun o => .sbc (.abs o),
  .word fun o => .inc (.abs o),
  .select (decide (v = .hll)) (.byte .sub) (.zprel .bbs6)]

/-- Row F of the opcode map (R105 to R107), with the extended forms of R110. -/
def opcodeRowF (v : Variant) (f : PrefixFlags) : List Shape := [
  .select f.ind (.select f.siz (.word .jhs) (.word .jeq)) (.select f.siz (.byte .bhs) (.byte .beq)),
  .byte fun o => .sbc (.zpIndY o),
  .byte fun o => .sbc (.zpInd o),
  .byte fun o => .sbc (.spIndY o),
  .byte fun o => .pul (.zp o),
  .byte fun o => .sbc (.zpX o),
  .byte fun o => .inc (.zpX o),
  .select (decide (v = .hll)) (.byte fun o => .inc (.bp o)) (.byte .smb7),
  .imp .sed,
  .word fun o => .sbc (.absY o),
  .select f.osx (.imp .pls) (.imp .plx),
  .imp .oay,
  .word fun o => .pul (.abs o),
  .word fun o => .sbc (.absX o),
  .word fun o => .inc (.absX o),
  .select (decide (v = .hll)) (.byte fun o => .inc (.ip o)) (.zprel .bbs7)]

/-- The opcode map: its row is `opcode[7:4]` (R100). -/
def opcodeMap (v : Variant) (f : PrefixFlags) : List (List Shape) := [
  opcodeRow0 v f,
  opcodeRow1 v f,
  opcodeRow2 v f,
  opcodeRow3 v f,
  opcodeRow4 v f,
  opcodeRow5 v f,
  opcodeRow6 v f,
  opcodeRow7 v f,
  opcodeRow8 v f,
  opcodeRow9 v f,
  opcodeRowA v f,
  opcodeRowB v f,
  opcodeRowC v f,
  opcodeRowD v f,
  opcodeRowE v f,
  opcodeRowF v f]

/-- The cell of an opcode: row `opcode[7:4]`, column `opcode[3:0]` (R100). The map has a cell for each opcode. -/
def shape (v : Variant) (f : PrefixFlags) (op : Byte) : Shape :=
  ((opcodeMap v f).getD (op.toNat / 16) []).getD (op.toNat % 16) (.imp .nop)

/-! ### The decoder -/

/-- The instruction of an opcode byte and the two bytes after it, under the prefix flags in force (R102). -/
def decodeAt (v : Variant) (f : PrefixFlags) (op b1 b2 : Byte) : Instr := (shape v f op).fill f b1 b2

/-- Why bytes hold no instruction. There is no illegal encoding (R113), so only missing bytes are refused. -/
inductive DecodeRefusal where
  /-- There is no opcode byte. -/
  | noOpcode
  /-- The bytes end before the operand does. -/
  | missingOperand
  deriving DecidableEq, Repr

/-- The instruction at the head of a list of bytes, and the bytes after it. A prefix byte is an instruction of its own
(R190). -/
def decode (v : Variant) (f : PrefixFlags) : List Byte → Except DecodeRefusal (Instr × List Byte)
  | [] => .error .noOpcode
  | op :: rest =>
    let n := (shape v f op).operands f
    if rest.length < n then .error .missingOperand
    else .ok (decodeAt v f op (rest.getD 0 0) (rest.getD 1 0), rest.drop n)

/-- The flags after a prefix byte, or `none` for a byte that is no prefix (R109, R193 to R198). -/
def PrefixFlags.after (f : PrefixFlags) (op : Byte) : Option PrefixFlags :=
  if op = 0x9B then some { f with ind := true }
  else if op = 0xAB then some { f with siz := true }
  else if op = 0xBB then some { f with ind := true, siz := true }
  else if op = 0xEB then some { f with oax := true, oay := false, osx := false }
  else if op = 0xFB then some { f with oay := true, oax := false }
  else if op = 0x8B then some { f with osx := true, oax := false }
  else none

/-- A whole instruction with the prefix bytes before it (R102): the flags they leave, the instruction, and the bytes
after it. -/
def decodePrefixed (v : Variant) (f : PrefixFlags) :
    List Byte → Except DecodeRefusal (PrefixFlags × Instr × List Byte)
  | [] => .error .noOpcode
  | op :: rest =>
    match f.after op with
    | some g => decodePrefixed v g rest
    | none =>
      match decode v f (op :: rest) with
      | .error e => .error e
      | .ok (i, tail) => .ok (f, i, tail)

/-! ### The encoder -/

/-- The bytes of a 16-bit operand: the low byte first (R71). -/
def wordBytes (w : Word) : List Byte := [loByte w, hiByte w]

/-- The bytes of an immediate operand (R103). -/
def Imm.bytes : Imm → List Byte
  | .b8 b => [b]
  | .b16 w => wordBytes w

/-- The operand bytes of a memory mode (R101). -/
def Mode.bytes : Mode → List Byte
  | .zp b | .zpX b | .zpY b | .zpInd b | .zpXInd b | .zpIndY b | .sp b | .spIndY b | .bp b | .ip b => [b]
  | .abs w | .absX w | .absY w => wordBytes w

/-- The bytes of a memory instruction, whose opcode the mode selects; no byte where the mnemonic lacks the mode. -/
def modeBytes (opcodes : List (ModeKind × Byte)) (m : Mode) : List Byte :=
  match opcodes.lookup m.kind with
  | some op => op :: m.bytes
  | none => []

/-- The bytes of an instruction, opcode first, without the prefix bytes before it (R101). -/
def encode : Instr → List Byte
  | .brk imm => [0x00, imm]
  | .ora m => modeBytes [(.zpXInd, 0x01), (.sp, 0x03), (.zp, 0x05), (.bp, 0x07), (.abs, 0x0D), (.ip, 0x0F),
    (.zpIndY, 0x11), (.zpInd, 0x12), (.spIndY, 0x13), (.zpX, 0x15), (.absY, 0x19), (.absX, 0x1D)] m
  | .cop imm => [0x02, imm]
  | .tsb m => modeBytes [(.zp, 0x04), (.abs, 0x0C), (.bp, 0x97), (.ip, 0x9F)] m
  | .asl m => modeBytes [(.zp, 0x06), (.abs, 0x0E), (.zpX, 0x16), (.bp, 0x17), (.absX, 0x1E), (.ip, 0x1F)] m
  | .rmb0 zp => [0x07, zp]
  | .php => [0x08]
  | .oraImm imm => 0x09 :: imm.bytes
  | .aslA => [0x0A]
  | .dup => [0x0B]
  | .bbr0 zp rel => [0x0F, zp, rel]
  | .bpl rel => [0x10, rel]
  | .trb m => modeBytes [(.zp, 0x14), (.abs, 0x1C), (.bp, 0xB7), (.ip, 0xBF)] m
  | .rmb1 zp => [0x17, zp]
  | .clc => [0x18]
  | .incA => [0x1A]
  | .swp => [0x1B]
  | .bbr1 zp rel => [0x1F, zp, rel]
  | .jsr abs => 0x20 :: wordBytes abs
  | .and m => modeBytes [(.zpXInd, 0x21), (.sp, 0x23), (.zp, 0x25), (.bp, 0x27), (.abs, 0x2D), (.ip, 0x2F),
    (.zpIndY, 0x31), (.zpInd, 0x32), (.spIndY, 0x33), (.zpX, 0x35), (.absY, 0x39), (.absX, 0x3D)] m
  | .adj imm => [0x22, imm]
  | .bit m => modeBytes [(.zp, 0x24), (.abs, 0x2C), (.zpX, 0x34), (.absX, 0x3C)] m
  | .rol m => modeBytes [(.zp, 0x26), (.abs, 0x2E), (.zpX, 0x36), (.bp, 0x37), (.absX, 0x3E), (.ip, 0x3F)] m
  | .rmb2 zp => [0x27, zp]
  | .plp => [0x28]
  | .andImm imm => 0x29 :: imm.bytes
  | .rolA => [0x2A]
  | .rot => [0x2B]
  | .bbr2 zp rel => [0x2F, zp, rel]
  | .bmi rel => [0x30, rel]
  | .rmb3 zp => [0x37, zp]
  | .sec => [0x38]
  | .decA => [0x3A]
  | .nxt => [0x3B]
  | .bbr3 zp rel => [0x3F, zp, rel]
  | .rti => [0x40]
  | .eor m => modeBytes [(.zpXInd, 0x41), (.sp, 0x43), (.zp, 0x45), (.bp, 0x47), (.abs, 0x4D), (.ip, 0x4F),
    (.zpIndY, 0x51), (.zpInd, 0x52), (.spIndY, 0x53), (.zpX, 0x55), (.absY, 0x59), (.absX, 0x5D)] m
  | .xma sp => [0x42, sp]
  | .mov imm => [0x44, imm]
  | .lsr m => modeBytes [(.zp, 0x46), (.abs, 0x4E), (.zpX, 0x56), (.bp, 0x57), (.absX, 0x5E), (.ip, 0x5F)] m
  | .rmb4 zp => [0x47, zp]
  | .pha => [0x48]
  | .eorImm imm => 0x49 :: imm.bytes
  | .lsrA => [0x4A]
  | .phi => [0x4B]
  | .jmpAbs abs => 0x4C :: wordBytes abs
  | .bbr4 zp rel => [0x4F, zp, rel]
  | .bvc rel => [0x50, rel]
  | .pshImm imm => 0x54 :: wordBytes imm
  | .rmb5 zp => [0x57, zp]
  | .cli => [0x58]
  | .phy => [0x5A]
  | .ini => [0x5B]
  | .phr rel => 0x5C :: wordBytes rel
  | .bbr5 zp rel => [0x5F, zp, rel]
  | .rts => [0x60]
  | .adc m => modeBytes [(.zpXInd, 0x61), (.sp, 0x63), (.zp, 0x65), (.bp, 0x67), (.abs, 0x6D), (.zpIndY, 0x71),
    (.zpInd, 0x72), (.spIndY, 0x73), (.zpX, 0x75), (.absY, 0x79), (.absX, 0x7D)] m
  | .add ip => [0x62, ip]
  | .stz m => modeBytes [(.zp, 0x64), (.zpX, 0x74), (.abs, 0x9C), (.absX, 0x9E)] m
  | .ror m => modeBytes [(.zp, 0x66), (.abs, 0x6E), (.zpX, 0x76), (.bp, 0x77), (.absX, 0x7E), (.ip, 0x7F)] m
  | .rmb6 zp => [0x67, zp]
  | .pla => [0x68]
  | .adcImm imm => 0x69 :: imm.bytes
  | .rorA => [0x6A]
  | .pli => [0x6B]
  | .jmpInd abs => 0x6C :: wordBytes abs
  | .unassigned6F => [0x6F]
  | .bbr6 zp rel => [0x6F, zp, rel]
  | .bvs rel => [0x70, rel]
  | .rmb7 zp => [0x77, zp]
  | .sei => [0x78]
  | .ply => [0x7A]
  | .ent => [0x7B]
  | .jmpIndX abs => 0x7C :: wordBytes abs
  | .bbr7 zp rel => [0x7F, zp, rel]
  | .bra rel => [0x80, rel]
  | .sta m => modeBytes [(.zpXInd, 0x81), (.sp, 0x83), (.zp, 0x85), (.bp, 0x87), (.abs, 0x8D), (.zpIndY, 0x91),
    (.zpInd, 0x92), (.spIndY, 0x93), (.zpX, 0x95), (.absY, 0x99), (.absX, 0x9D), (.ip, 0xC2)] m
  | .unassigned82 => [0x82]
  | .sty m => modeBytes [(.zp, 0x84), (.abs, 0x8C), (.zpX, 0x94)] m
  | .stx m => modeBytes [(.zp, 0x86), (.abs, 0x8E), (.zpY, 0x96)] m
  | .smb0 zp => [0x87, zp]
  | .dey => [0x88]
  | .bitImm imm => 0x89 :: imm.bytes
  | .txa => [0x8A]
  | .osx => [0x8B]
  | .unassigned8F => [0x8F]
  | .bbs0 zp rel => [0x8F, zp, rel]
  | .bcc rel => [0x90, rel]
  | .smb1 zp => [0x97, zp]
  | .tya => [0x98]
  | .txs => [0x9A]
  | .ind => [0x9B]
  | .bbs1 zp rel => [0x9F, zp, rel]
  | .ldyImm imm => 0xA0 :: imm.bytes
  | .lda m => modeBytes [(.zpXInd, 0xA1), (.sp, 0xA3), (.zp, 0xA5), (.bp, 0xA7), (.abs, 0xAD), (.zpIndY, 0xB1),
    (.zpInd, 0xB2), (.spIndY, 0xB3), (.zpX, 0xB5), (.absY, 0xB9), (.absX, 0xBD), (.ip, 0xE2)] m
  | .ldxImm imm => 0xA2 :: imm.bytes
  | .ldy m => modeBytes [(.zp, 0xA4), (.abs, 0xAC), (.zpX, 0xB4), (.absX, 0xBC)] m
  | .ldx m => modeBytes [(.zp, 0xA6), (.abs, 0xAE), (.zpY, 0xB6), (.absY, 0xBE)] m
  | .smb2 zp => [0xA7, zp]
  | .tay => [0xA8]
  | .ldaImm imm => 0xA9 :: imm.bytes
  | .tax => [0xAA]
  | .siz => [0xAB]
  | .unassignedAF => [0xAF]
  | .bbs2 zp rel => [0xAF, zp, rel]
  | .bcs rel => [0xB0, rel]
  | .smb3 zp => [0xB7, zp]
  | .clv => [0xB8]
  | .tsx => [0xBA]
  | .isz => [0xBB]
  | .bbs3 zp rel => [0xBF, zp, rel]
  | .cpyImm imm => 0xC0 :: imm.bytes
  | .cmp m => modeBytes [(.zpXInd, 0xC1), (.sp, 0xC3), (.zp, 0xC5), (.bp, 0xC7), (.abs, 0xCD), (.ip, 0xCF),
    (.zpIndY, 0xD1), (.zpInd, 0xD2), (.spIndY, 0xD3), (.zpX, 0xD5), (.absY, 0xD9), (.absX, 0xDD)] m
  | .cpy m => modeBytes [(.zp, 0xC4), (.abs, 0xCC)] m
  | .dec m => modeBytes [(.zp, 0xC6), (.abs, 0xCE), (.zpX, 0xD6), (.bp, 0xD7), (.absX, 0xDE), (.ip, 0xDF)] m
  | .smb4 zp => [0xC7, zp]
  | .iny => [0xC8]
  | .cmpImm imm => 0xC9 :: imm.bytes
  | .dex => [0xCA]
  | .wai => [0xCB]
  | .bbs4 zp rel => [0xCF, zp, rel]
  | .bne rel => [0xD0, rel]
  | .psh m => modeBytes [(.zp, 0xD4), (.abs, 0xDC)] m
  | .smb5 zp => [0xD7, zp]
  | .cld => [0xD8]
  | .phx => [0xDA]
  | .stp => [0xDB]
  | .bbs5 zp rel => [0xDF, zp, rel]
  | .cpxImm imm => 0xE0 :: imm.bytes
  | .sbc m => modeBytes [(.zpXInd, 0xE1), (.sp, 0xE3), (.zp, 0xE5), (.bp, 0xE7), (.abs, 0xED), (.zpIndY, 0xF1),
    (.zpInd, 0xF2), (.spIndY, 0xF3), (.zpX, 0xF5), (.absY, 0xF9), (.absX, 0xFD)] m
  | .cpx m => modeBytes [(.zp, 0xE4), (.abs, 0xEC)] m
  | .inc m => modeBytes [(.zp, 0xE6), (.abs, 0xEE), (.zpX, 0xF6), (.bp, 0xF7), (.absX, 0xFE), (.ip, 0xFF)] m
  | .smb6 zp => [0xE7, zp]
  | .inx => [0xE8]
  | .sbcImm imm => 0xE9 :: imm.bytes
  | .nop => [0xEA]
  | .oax => [0xEB]
  | .sub ip => [0xEF, ip]
  | .bbs6 zp rel => [0xEF, zp, rel]
  | .beq rel => [0xF0, rel]
  | .pul m => modeBytes [(.zp, 0xF4), (.abs, 0xFC)] m
  | .smb7 zp => [0xF7, zp]
  | .sed => [0xF8]
  | .plx => [0xFA]
  | .oay => [0xFB]
  | .bbs7 zp rel => [0xFF, zp, rel]
  | .tai => [0x0B]
  | .tia => [0x0B]
  | .xai => [0x0B]
  | .bsw => [0x1B]
  | .rev => [0x2B]
  | .nxtItc => [0x3B]
  | .entItc => [0x7B]
  | .phw => [0x4B]
  | .inw => [0x5B]
  | .plw => [0x6B]
  | .asr => [0x4A]
  | .asrW => [0x4A]
  | .aslAV => [0x0A]
  | .rolAV => [0x2A]
  | .incAC => [0x1A]
  | .decAC => [0x3A]
  | .jrl rel => 0x80 :: wordBytes rel
  | .jmi rel => 0x30 :: wordBytes rel
  | .jpl rel => 0x10 :: wordBytes rel
  | .jvs rel => 0x70 :: wordBytes rel
  | .jvc rel => 0x50 :: wordBytes rel
  | .jeq rel => 0xF0 :: wordBytes rel
  | .jne rel => 0xD0 :: wordBytes rel
  | .jcs rel => 0xB0 :: wordBytes rel
  | .jcc rel => 0x90 :: wordBytes rel
  | .ble rel => [0x30, rel]
  | .jle rel => 0x30 :: wordBytes rel
  | .bgt rel => [0x10, rel]
  | .jgt rel => 0x10 :: wordBytes rel
  | .blt rel => [0x70, rel]
  | .jlt rel => 0x70 :: wordBytes rel
  | .bge rel => [0x50, rel]
  | .jge rel => 0x50 :: wordBytes rel
  | .bhs rel => [0xF0, rel]
  | .jhs rel => 0xF0 :: wordBytes rel
  | .blo rel => [0xD0, rel]
  | .jlo rel => 0xD0 :: wordBytes rel
  | .bhi rel => [0xB0, rel]
  | .jhi rel => 0xB0 :: wordBytes rel
  | .bls rel => [0x90, rel]
  | .jls rel => 0x90 :: wordBytes rel
  | .ldsImm imm => 0xA2 :: imm.bytes
  | .lds m => modeBytes [(.zp, 0xA6), (.zpY, 0xB6), (.abs, 0xAE), (.absY, 0xBE)] m
  | .sts m => modeBytes [(.zp, 0x86), (.zpY, 0x96), (.abs, 0x8E)] m
  | .cpsImm imm => 0xE0 :: imm.bytes
  | .cps m => modeBytes [(.zp, 0xE4), (.abs, 0xEC)] m
  | .tas => [0xAA]
  | .tsa => [0x8A]
  | .phs => [0xDA]
  | .pls => [0xFA]
  | .ins => [0xE8]
  | .des => [0xCA]

/-- Prefix bytes that leave these flags when none was set before (R193 to R199). -/
def PrefixFlags.bytes (f : PrefixFlags) : List Byte :=
  (if f.ind then (if f.siz then [0xBB] else [0x9B]) else (if f.siz then [0xAB] else []))
    ++ (if f.oax then [0xEB] else []) ++ (if f.oay then [0xFB] else []) ++ (if f.osx then [0x8B] else [])

/-- The instruction that the decoder reads, with no prefix before it and in the default variant, from an instruction
whose bits are `w`: byte k of the instruction is bits `8k+7 .. 8k` of `w`, and every bit from `nbits` up is 0. -/
def decodeTableWord (nbits w : Nat) : Option Instr :=
  let n := w % 2 ^ nbits
  match decode Config.default.variant PrefixFlags.clear
      [BitVec.ofNat 8 n, BitVec.ofNat 8 (n / 256), BitVec.ofNat 8 (n / 65536)] with
  | .ok (i, _) => some i
  | .error _ => none

end Sys2Proof
end

