-- ==== Sys2Proof/Machine/State.lean ====
section
/-!
DEFINITION. The state of the machine as plain data, its memory in canonical form, the reasons a step can stop, and the
state after reset.
-/

namespace Sys2Proof.Machine

/-! ### Memory -/

/-- Memory (R43): the listed bytes, addresses strictly rising, none equal to the blank byte. -/
abbrev Memory := List Host.Cell

/-- What an unlisted address reads as. DESIGN CHOICE, unsafe (log 8): R90 gives memory that nothing has written no
value. `State.powerUp` is power-up over any contents. -/
def blankByte : Byte := 0x00

/-- The byte at an address. -/
def Memory.read : Memory → Nat → Byte
  | [], _ => blankByte
  | (k, v) :: m, a => if k = a then v else Memory.read m a

/-- Memory with one byte written, again in canonical form. -/
def Memory.write : Memory → Nat → Byte → Memory
  | [], a, v => if v = blankByte then [] else [(a, v)]
  | (k, w) :: m, a, v =>
    if a < k then (if v = blankByte then (k, w) :: m else (a, v) :: (k, w) :: m)
    else if a = k then (if v = blankByte then m else (a, v) :: m)
    else (k, w) :: Memory.write m a v

/-- Every listed address is at least `lo` and below 65,536, addresses rise strictly, and no blank byte is listed. -/
def Memory.wfFrom : Nat → Memory → Bool
  | _, [] => true
  | lo, (k, v) :: m => decide (lo ≤ k) && decide (k < 65536) && decide (v ≠ blankByte) && Memory.wfFrom (k + 1) m

/-- The canonical form. -/
def Memory.wf (m : Memory) : Bool := Memory.wfFrom 0 m

/-! ### Registers -/

/-- A register stack (R21). -/
structure RegStack where
  /-- Top of stack: the register that ordinary instructions use. -/
  tos : Word
  /-- Next on stack. -/
  nos : Word
  /-- Bottom of stack. -/
  bos : Word
  deriving DecidableEq, Repr

/-- The seven stored bits of P (R31). B is not stored (R36). -/
structure Psw where
  /-- Negative (R39). -/
  n : Bool
  /-- Overflow (R38). -/
  v : Bool
  /-- Mode: true is Kernel, false is User (R37). -/
  m : Bool
  /-- Decimal mode (R35). -/
  d : Bool
  /-- Interrupt mask (R34). -/
  i : Bool
  /-- Zero (R33). -/
  z : Bool
  /-- Carry (R32). -/
  c : Bool
  deriving DecidableEq, Repr

/-- The run state (R40). -/
inductive RunState where
  | running
  /-- Entered by `wai` (R320). -/
  | waiting
  /-- Entered by `stp` (R321). -/
  | stopped
  deriving DecidableEq, Repr

/-! ### The environment -/

/-- Whether P.I masks an interrupt request (R532). -/
inductive IntKind where
  | maskable
  | nonMaskable
  deriving DecidableEq, Repr

/-- A request at the external interrupt handler (R532), with the address it presents on `Vector`; `none` is the
platform's vector for the kind, VEC_IRQ or VEC_NMI (R541). -/
structure IntRequest where
  kind : IntKind
  vector : Option Word
  deriving DecidableEq, Repr

/-- What the core samples at one step (R40). -/
structure Inputs where
  /-- `Rst`: reset is requested (R580). -/
  rst : Bool
  /-- The request that the external handler would serve (R532). -/
  int : Option IntRequest
  /-- `xIRQ`: some maskable source requests, masked or not (R532). -/
  xirq : Bool
  /-- `SO`: set-overflow request (R565). -/
  so : Bool
  deriving DecidableEq, Repr

/-- Nothing is asserted. -/
def Inputs.idle : Inputs where
  rst := false
  int := none
  xirq := false
  so := false

/-! ### The state -/

/-- The state of the machine. -/
structure State where
  /-- A register stack (R21). -/
  a : RegStack
  /-- X register stack; X_TOS is also S_X and B (R22). -/
  x : RegStack
  /-- Y register stack (R21). -/
  y : RegStack
  /-- Kernel-mode system stack pointer (R24). -/
  sk : Word
  /-- User-mode system stack pointer (R24). -/
  su : Word
  /-- FORTH interpretive pointer (R28). -/
  ip : Word
  /-- FORTH working register (R28). -/
  w : Word
  /-- Program counter (R29). -/
  pc : Word
  /-- Processor status word (R31). -/
  p : Psw
  /-- Prefix flag registers (R41). -/
  pre : PrefixFlags
  /-- Run state (R40). -/
  run : RunState
  /-- A set-overflow request that has not set V yet (R40, R565). -/
  soLatch : Bool
  /-- Memory (R43). -/
  mem : Memory
  /-- What the environment asserts at the coming steps, one record a step, then nothing (R40). -/
  inputs : List Inputs
  /-- The model's own: how many free values have been drawn. -/
  free : Nat
  /-- The parameters (R9). No step changes them. -/
  cfg : Config
  deriving DecidableEq, Repr

/-! ### Stops -/

/-- Faults. There is none: "There is no `fault` treatment anywhere" (93_implementation_defined.md); no address, width,
alignment, mode or encoding makes the core fault (R531). -/
inductive Fault where
  deriving DecidableEq, Repr

/-- Refusals: the instruction has no meaning in the model. Each is safe: nothing can be proved of a next state. -/
inductive Refusal where
  /-- An instruction without a meaning. Raised by no arm: every instruction has one. Safe. -/
  | notModelled (mnemonic : String)
  /-- `cop`: the co-processor interface is "TBD" (R310, U3). Raised by `cop`. Safe. -/
  | copUnspecified
  /-- `mov`: the layout of its mode byte, the count and the end are nowhere given (R312, U4). Raised by `mov`. Safe. -/
  | movUnspecified
  /-- An `ip,I++` operand byte other than 0 (R170, U10). Raised by every instruction of that mode. Safe. -/
  | ipOperandNonzero
  /-- `tai`, `tia`, `xai`, `bsw` or `rev` under `oax` or `oay` (R206, R221, U12). Raised by these five. Safe. -/
  | registerStackOverride
  /-- `osx txs` or `osx tsx` (R355, R356, U11). Raised by these two. Safe. -/
  | osxTransfer
  deriving DecidableEq, Repr

/-! ### Reset -/

/-- A register stack that holds nothing. -/
def RegStack.zero : RegStack where
  tos := 0
  nos := 0
  bos := 0

/-- The machine right after reset (R44): P.M = 1, P.I = 1, P.D = 0, S_K = 0x01FF, no prefix flag, running, no latched
SO request, and pc the word at VEC_RST, which is 0x0000 where nothing is listed. DESIGN CHOICE, unsafe (log 6): every
register that R44 leaves unspecified is zero. Later resets draw those values: `State.resetSequence`. -/
def State.reset : State where
  a := .zero
  x := .zero
  y := .zero
  sk := 0x01FF
  su := 0
  ip := 0
  w := 0
  pc := 0
  p := { n := false, v := false, m := true, d := false, i := true, z := false, c := false }
  pre := .clear
  run := .running
  soLatch := false
  mem := []
  inputs := []
  free := 0
  cfg := .default

end Sys2Proof.Machine
end

