-- ==== Sys2Proof/Machine/Flags.lean ====
section
/-!
DEFINITION. The arithmetic and the flags: widths, the binary adder, decimal sums, shifts, logic, branch conditions, and
P as the byte that pushes and pulls move.
-/

namespace Sys2Proof.Machine

/-! ### Widths -/

/-- The low w bits of a value, zero-extended (R26): w is 16 when `wide`, else 8. -/
def narrow (wide : Bool) (v : Word) : Word := if wide then v else zext (loByte v)

/-- The top bit over the operation width (R39). -/
def msb (wide : Bool) (v : Word) : Bool := if wide then v.getLsbD 15 else v.getLsbD 7

/-- The value is zero over the operation width (R33). -/
def isZero (wide : Bool) (v : Word) : Bool := decide (narrow wide v = 0)

/-- N and Z of a result over the operation width (R33, R39). -/
def Psw.setNZ (p : Psw) (wide : Bool) (v : Word) : Psw := { p with n := msb wide v, z := isZero wide v }

/-! ### Binary arithmetic -/

/-- What the adder gives (R440). -/
structure Sum where
  value : Word
  carry : Bool
  overflow : Bool
  deriving DecidableEq, Repr

/-- `2^w`. -/
def modulus (wide : Bool) : Nat := if wide then 65536 else 256

/-- `Add(l, r, c)` of R440. -/
def addWith (wide : Bool) (l r : Word) (c : Bool) : Sum :=
  let total := (narrow wide l).toNat + (narrow wide r).toNat + c.toNat
  let value := BitVec.ofNat 16 (total % modulus wide)
  { value := value
    carry := decide (modulus wide ≤ total)
    overflow := (msb wide l == msb wide r) && (msb wide value != msb wide l) }

/-- `Sub(l, r, c)` of R440: the sum with the complement of the right operand. -/
def subWith (wide : Bool) (l r : Word) (c : Bool) : Sum := addWith wide l (~~~ r) c

/-! ### Decimal arithmetic -/

/-- Both nibbles are decimal digits (R442). -/
def bcdValid (b : Byte) : Bool := decide (b.toNat / 16 ≤ 9) && decide (b.toNat % 16 ≤ 9)

/-- The number that a packed decimal byte stands for. -/
def bcd (b : Byte) : Nat := 10 * (b.toNat / 16) + b.toNat % 16

/-- The packed decimal byte of a number modulo 100. -/
def toBcd (n : Nat) : Byte := BitVec.ofNat 8 (16 * (n % 100 / 10) + n % 10)

/-- A decimal result and its carry. -/
structure DecSum where
  value : Byte
  carry : Bool
  deriving DecidableEq, Repr

/-- Decimal `adc` on valid operands (R442). -/
def decimalAdd (l r : Byte) (c : Bool) : DecSum :=
  let t := bcd l + bcd r + c.toNat
  { value := toBcd t, carry := decide (100 ≤ t) }

/-- Decimal `sbc` on valid operands (R442), with 100 added so that the difference stays a natural number. -/
def decimalSub (l r : Byte) (c : Bool) : DecSum :=
  let t := 100 + bcd l - bcd r - (!c).toNat
  { value := toBcd t, carry := decide (100 ≤ t) }

/-! ### Logic and shifts -/

/-- The operations of the logic unit on the accumulator (R381). -/
inductive LogicOp where
  | ora
  | and
  | eor
  deriving DecidableEq, Repr

/-- Bit by bit (R381). -/
def LogicOp.apply : LogicOp → Word → Word → Word
  | .ora, l, r => l ||| r
  | .and, l, r => l &&& r
  | .eor, l, r => l ^^^ r

/-- The shifts and rotates (R425 to R428), and the arithmetic right shift (R433). -/
inductive ShiftKind where
  | asl
  | rol
  | lsr
  | ror
  | asr
  deriving DecidableEq, Repr

/-- A shifted value and the bit shifted out. -/
structure Shifted where
  value : Word
  carry : Bool
  deriving DecidableEq, Repr

/-- A bit in the lowest place. -/
def lowBit (b : Bool) : Word := if b then 1 else 0

/-- A bit in the top place of the operation width. -/
def topBit (wide b : Bool) : Word := if b then (if wide then 0x8000 else 0x0080) else 0

/-- The bit movements of R425 to R428 and R433, on the low w bits of `v`. -/
def ShiftKind.apply (k : ShiftKind) (wide c : Bool) (v : Word) : Shifted :=
  let u := narrow wide v
  match k with
  | .asl => { value := narrow wide (u <<< 1), carry := msb wide u }
  | .rol => { value := narrow wide (u <<< 1) ||| lowBit c, carry := msb wide u }
  | .lsr => { value := u >>> 1, carry := u.getLsbD 0 }
  | .ror => { value := (u >>> 1) ||| topBit wide c, carry := u.getLsbD 0 }
  | .asr => { value := (u >>> 1) ||| topBit wide (msb wide u), carry := u.getLsbD 0 }

/-! ### Branch conditions -/

/-- The conditions of the branches (R481 to R491) and of the extended branches (R490). -/
inductive Cond where
  | always
  | pl
  | mi
  | vc
  | vs
  | cc
  | cs
  | ne
  | eq
  | le
  | gt
  | lt
  | ge
  | lo
  | hs
  | hi
  | ls
  deriving DecidableEq, Repr

/-- The flag expression of a condition (R481 to R491, R490). -/
def Cond.holds (k : Cond) (p : Psw) : Bool :=
  match k with
  | .always => true
  | .pl => !p.n
  | .mi => p.n
  | .vc => !p.v
  | .vs => p.v
  | .cc => !p.c
  | .cs => p.c
  | .ne => !p.z
  | .eq => p.z
  | .le => p.z || (p.n ^^ p.v)
  | .gt => !p.z && !(p.n ^^ p.v)
  | .lt => p.n ^^ p.v
  | .ge => !(p.n ^^ p.v)
  | .lo => !p.c
  | .hs => p.c
  | .hi => p.c && !p.z
  | .ls => !p.c || p.z

/-! ### P as a byte -/

/-- The byte that a push of P writes (R31, R36): N V M B D I Z C, with `b` in bit 4. -/
def Psw.toByte (p : Psw) (b : Bool) : Byte :=
  BitVec.ofBool p.n ++ BitVec.ofBool p.v ++ BitVec.ofBool p.m ++ BitVec.ofBool b ++ BitVec.ofBool p.d
    ++ BitVec.ofBool p.i ++ BitVec.ofBool p.z ++ BitVec.ofBool p.c

/-- P with the flags of a pulled byte; M stays, and bit 4 is discarded (R288). -/
def Psw.loadFlags (p : Psw) (v : Byte) : Psw where
  n := v.getLsbD 7
  v := v.getLsbD 6
  m := p.m
  d := v.getLsbD 3
  i := v.getLsbD 2
  z := v.getLsbD 1
  c := v.getLsbD 0

/-- P after `rti` pulls a byte (R510): M too is loaded in Kernel mode, and stays in User mode (R551). -/
def Psw.restore (p : Psw) (v : Byte) : Psw :=
  { p.loadFlags v with m := if p.m then v.getLsbD 5 else p.m }

/-- P on entry to a trap or interrupt (R545): M and I set, D cleared. -/
def Psw.entered (p : Psw) : Psw := { p with m := true, i := true, d := false }

end Sys2Proof.Machine
end

