-- ==== Sys2Proof/Machine/Ops.lean ====
section
/-!
DEFINITION. The operations that the meanings share: memory, registers, stacks, free values, the end of an instruction,
taking a trap or an interrupt and returning from one, and reset.
-/

namespace Sys2Proof.Machine

/-- What a step or a meaning answers. -/
abbrev Answer := Host.Outcome State Fault Refusal

/-- 16-bit operation: SIZ is set (R11, R26). -/
def State.wide (s : State) : Bool := s.pre.siz

/-! ### Memory -/

/-- `MemRead(a, 1)` (R11). -/
def State.readByte (s : State) (a : Word) : Byte := s.mem.read a.toNat

/-- `MemWrite(a, 1, v)` (R11). -/
def State.writeByte (s : State) (a : Word) (v : Byte) : State := { s with mem := s.mem.write a.toNat v }

/-- Where an operand's two bytes lie (R132): EA and EA1. -/
structure Loc where
  first : Word
  second : Word
  deriving DecidableEq, Repr

/-- EA, and EA1 the next address modulo 65,536 (R132). -/
def Loc.next (a : Word) : Loc := { first := a, second := a + 1 }

/-- The 16-bit value at a place: the low byte at the first address (R70). -/
def State.readPair (s : State) (l : Loc) : Word := joinBytes (s.readByte l.second) (s.readByte l.first)

/-- The low byte to the first address, then the high byte to the second (R132). -/
def State.writePair (s : State) (l : Loc) (v : Word) : State :=
  (s.writeByte l.first (loByte v)).writeByte l.second (hiByte v)

/-- `MemRead(a, 2)` (R11): a pointer or vector anywhere but in page 0 by a `zp` operand. -/
def State.pointerAt (s : State) (a : Word) : Word := s.readPair (.next a)

/-- The two bytes at a zero-page address, the second modulo 256 (R137, R138). -/
def zpLoc (b : Byte) : Loc := { first := zext b, second := zext (b + 1) }

/-- The pointer at a zero-page address (R137). -/
def State.zpPointer (s : State) (b : Byte) : Word := s.readPair (zpLoc b)

/-- `ReadOp` (R132): one byte zero-extended, or two bytes. -/
def State.readOp (s : State) (wide : Bool) (l : Loc) : Word :=
  if wide then s.readPair l else zext (s.readByte l.first)

/-- `WriteOp` (R132): one byte, or two. -/
def State.writeOp (s : State) (wide : Bool) (l : Loc) (v : Word) : State :=
  if wide then s.writePair l v else s.writeByte l.first (loByte v)

/-! ### Registers -/

/-- The registers that the roles of R175 stand for: the three TOS elements, and S as P.M selects it. -/
inductive Reg where
  | a
  | x
  | y
  | sp
  deriving DecidableEq, Repr

/-- S: S_K in Kernel mode, S_U in User mode (R24). -/
def State.sys (s : State) : Word := if s.p.m then s.sk else s.su

/-- A write of all 16 bits of S (R24). -/
def State.setSys (s : State) (v : Word) : State := if s.p.m then { s with sk := v } else { s with su := v }

/-- All 16 bits of a register. -/
def State.reg (s : State) : Reg → Word
  | .a => s.a.tos
  | .x => s.x.tos
  | .y => s.y.tos
  | .sp => s.sys

/-- A write of all 16 bits of a register. NOS and BOS do not move (R21). -/
def State.setReg (s : State) (r : Reg) (v : Word) : State :=
  match r with
  | .a => { s with a := { s.a with tos := v } }
  | .x => { s with x := { s.x with tos := v } }
  | .y => { s with y := { s.y with tos := v } }
  | .sp => s.setSys v

/-- What a write at the operation width stores: 16 bits; or 8 bits below 0x00 (R26), and below 0x01 for S (R25). -/
def Reg.stored (r : Reg) (wide : Bool) (v : Word) : Word :=
  if wide then v else joinBytes (if r = .sp then 0x01 else 0x00) (loByte v)

/-- The accumulator role (R175). -/
def State.accReg (s : State) : Reg := if s.pre.oax then .x else if s.pre.oay then .y else .a

/-- The register of the instructions that name X (R175). -/
def State.xReg (s : State) : Reg := if s.pre.oax then .a else if s.pre.osx then .sp else .x

/-- The register of the instructions that name Y (R175). -/
def State.yReg (s : State) : Reg := if s.pre.oay then .a else .y

/-- The stack pointer that `txs`, `tsx`, `tas` and `tsa` reach (R365): in Kernel mode, S_U under IND. -/
def State.transferSp (s : State) : Word := if s.p.m && !s.pre.ind then s.sk else s.su

/-- A write of that stack pointer (R365). -/
def State.setTransferSp (s : State) (v : Word) : State :=
  if s.p.m && !s.pre.ind then { s with sk := v } else { s with su := v }

/-! ### Free values -/

/-- The next bit that the spec leaves unspecified; `k` counts the bits of one instruction. -/
def State.freeBit (s : State) (k : Nat) : Bool := Config.freeBit (s.free + k)

/-- The next word that the spec leaves unspecified. -/
def State.freeWord (s : State) (k : Nat) : Word := Config.freeWord (s.free + k)

/-- `k` free values have been drawn. -/
def State.drawn (s : State) (k : Nat) : State := { s with free := s.free + k }

/-! ### Flags in the state -/

/-- Another P. -/
def State.setP (s : State) (p : Psw) : State := { s with p := p }

/-- N and Z of a value at the operation width. -/
def State.setNZ (s : State) (v : Word) : State := s.setP (s.p.setNZ s.wide v)

/-- N and Z unspecified (U17, U18). DESIGN CHOICE: free values (log 27, log 28). -/
def State.freeNZ (s : State) : State := (s.setP { s.p with n := s.freeBit 0, z := s.freeBit 1 }).drawn 2

/-- `Load(dst, v)` of R330: the register at the operation width, then N and Z, which are unspecified for S (U18). -/
def State.load (s : State) (r : Reg) (v : Word) : State :=
  let t := s.setReg r (r.stored s.wide v)
  if r = .sp then t.freeNZ else t.setNZ v

/-! ### Stacks -/

/-- The stack pointers (R24, R84). -/
inductive StackPtr where
  | kernel
  | user
  /-- The auxiliary stack pointer S_X, X_TOS. -/
  | aux
  deriving DecidableEq, Repr

/-- The pointer that P.M selects (R24). -/
def State.modePtr (s : State) : StackPtr := if s.p.m then .kernel else .user

/-- The pointer of the system-stack instructions (R84 a). -/
def State.stackPtr (s : State) : StackPtr := if s.pre.osx then .aux else s.modePtr

/-- The pointer of the FORTH VM instructions (R84 b, R241). -/
def State.vmPtr (s : State) : StackPtr := if s.pre.osx then s.modePtr else .aux

/-- The value of a stack pointer. -/
def State.sp (s : State) : StackPtr → Word
  | .kernel => s.sk
  | .user => s.su
  | .aux => s.x.tos

/-- A write of a stack pointer. -/
def State.setSp (s : State) (k : StackPtr) (v : Word) : State :=
  match k with
  | .kernel => { s with sk := v }
  | .user => { s with su := v }
  | .aux => { s with x := { s.x with tos := v } }

/-- The pointer is in page 0 or page 1 and locked to it (R79). The auxiliary pointer is never locked (D33). -/
def StackPtr.locked (k : StackPtr) (v : Word) : Bool :=
  match k with
  | .aux => false
  | .kernel | .user => decide (hiByte v = 0x00) || decide (hiByte v = 0x01)

/-- `inc` of R79. -/
def StackPtr.up (k : StackPtr) (v : Word) : Word :=
  if k.locked v then joinBytes (hiByte v) (loByte v + 1) else v + 1

/-- `dec` of R79. -/
def StackPtr.down (k : StackPtr) (v : Word) : Word :=
  if k.locked v then joinBytes (hiByte v) (loByte v - 1) else v - 1

/-- `Push8` (R80). -/
def State.push8 (s : State) (k : StackPtr) (v : Byte) : State :=
  (s.writeByte (s.sp k) v).setSp k (k.down (s.sp k))

/-- `Push16` (R82): the high byte first. -/
def State.push16 (s : State) (k : StackPtr) (v : Word) : State := (s.push8 k (hiByte v)).push8 k (loByte v)

/-- The state after `Pull8` (R81). -/
def State.pulled8 (s : State) (k : StackPtr) : State := s.setSp k (k.up (s.sp k))

/-- The byte that `Pull8` returns (R81). -/
def State.pull8 (s : State) (k : StackPtr) : Byte := s.readByte (k.up (s.sp k))

/-- The state after `Pull16` (R83). -/
def State.pulled16 (s : State) (k : StackPtr) : State := (s.pulled8 k).pulled8 k

/-- The word that `Pull16` returns (R83): the low byte first. -/
def State.pull16 (s : State) (k : StackPtr) : Word := joinBytes ((s.pulled8 k).pull8 k) (s.pull8 k)

/-! ### The end of an instruction -/

/-- The instruction completes and `n` bytes, the opcode among them, are behind the pc; the prefix flags are cleared
(R29, R191). -/
def State.retire (s : State) (n : Nat) : State := { s with pc := s.pc + BitVec.ofNat 16 n, pre := .clear }

/-- The instruction completes and control goes to `target`; the prefix flags are cleared (R30, R191). -/
def State.jump (s : State) (target : Word) : State := { s with pc := target, pre := .clear }

/-- `pc_next`, when `n` bytes are the opcode and its operand (R11). -/
def State.pcNext (s : State) (n : Nat) : Word := s.pc + BitVec.ofNat 16 n

/-! ### Traps, interrupts and reset -/

/-- TAKING A TRAP OR AN INTERRUPT (R545, R520): the return value and then P, with bit 4 as given, are pushed on S_K;
M and I are set, D is cleared; and the pc is the word at the vector. -/
def State.enter (s : State) (ret : Word) (bit4 : Bool) (vector : Word) : State :=
  let t := (s.push16 .kernel ret).push8 .kernel (s.p.toByte bit4)
  (t.setP s.p.entered).jump (t.pointerAt vector)

/-- RETURNING (R510): P and then the return value are pulled with the pointer selected before P changes, and the pc is
one past the value. -/
def State.returnFrom (s : State) (k : StackPtr) : State :=
  let t := s.pulled8 k
  let ret := t.pull16 k
  ((t.pulled16 k).setP (s.p.restore (s.pull8 k))).jump (ret + 1)

/-- Power-up over memory contents that nothing fixes (R44, R90): `State.reset` with these contents, and the pc the word
at VEC_RST in them. A claim about a byte that nothing has written is made of every `contents`; `State.reset` is the one
with no byte listed (log 8). -/
def State.powerUp (contents : Memory) : State :=
  let s : State := { State.reset with mem := contents }
  { s with pc := s.pointerAt s.cfg.vecRst }

/-- The reset sequence (R581), with a free value for each thing it leaves unspecified. DESIGN CHOICE (log 13). -/
def State.resetSequence (s : State) : State :=
  let p : Psw :=
    { n := s.freeBit 0, v := s.freeBit 1, m := true, d := false, i := true, z := s.freeBit 2, c := s.freeBit 3 }
  let t := ((({ s with sk := 0x0102 } : State).push8 .kernel (loByte (s.freeWord 0))).push8 .kernel
    (loByte (s.freeWord 1))).push8 .kernel (loByte (s.freeWord 2))
  let u := { t with
    su := s.freeWord 3, ip := s.freeWord 4, w := s.freeWord 5, run := .running, soLatch := false }
  ((u.setP p).drawn 6).jump (u.pointerAt s.cfg.vecRst)

end Sys2Proof.Machine
end

