-- ==== Sys2Proof/Machine/Operands.lean ====
section
/-!
DEFINITION. Effective addresses of every memory mode under every prefix flag (40_addressing_modes.md), and the shapes in
which instructions use an operand: read it, write it, or change it in place.
-/

namespace Sys2Proof.Machine

/-! ### Index and base registers -/

/-- 0 or 1 as a word. -/
def biasWord : Bias → Word
  | .zero => 0
  | .one => 1

/-- The X index (R133, R175): X_TOS; A_TOS under OAX; under OSX, S with its bias, or X_TOS in the other reading of
conflict C10 (R176, log 15). -/
def State.xIndex (s : State) : Word :=
  if s.pre.oax then s.a.tos
  else if s.pre.osx then
    match s.cfg.osxIndex with
    | .substitute => s.sys + biasWord s.cfg.osxIndexBias
    | .keepX => s.x.tos
  else s.x.tos

/-- The Y index (R133, R175): Y_TOS; A_TOS under OAY. -/
def State.yIndex (s : State) : Word := if s.pre.oay then s.a.tos else s.y.tos

/-- The base of `bp,B` (R162): X_TOS with BP_BIAS; A_TOS under OAX; under OSX the stack pointer as in `sp,S`, or no
change in the other reading of conflict C11. DESIGN CHOICE (log 16): the base is all that OSX changes, and the operand
byte stays the signed offset of `bp,B`, where the spec does not say whether it becomes the unsigned one of `sp,S`. The
sum is plain 16-bit in both readings of U8, where the spec does not say whether it follows the page lock of `sp,S`. -/
def State.bpBase (s : State) : Word :=
  if s.pre.oax then s.a.tos + biasWord s.cfg.bpBias
  else if s.pre.osx then
    match s.cfg.osxBase with
    | .stackRelative => s.sys + 1
    | .noEffect => s.x.tos + biasWord s.cfg.bpBias
  else s.x.tos + biasWord s.cfg.bpBias

/-! ### Effective addresses -/

/-- `zp,X` and `zp,Y` without IND (R140, R142, R145): modulo 256 when the index is below 0x0200, in page 0, or in the
index's own page in the other reading of U7 (log 17); else 16-bit. -/
def State.zpIndexed (s : State) (index : Word) (b : Byte) : Loc :=
  if index.toNat < 512 then
    let page := match s.cfg.page1Index with
      | .dropPage => 0x00
      | .keepPage => hiByte index
    { first := joinBytes page (loByte index + b), second := joinBytes page (loByte index + b + 1) }
  else .next (index + zext b)

/-- `sp,S` without IND (R160): one past the pointer, plus the unsigned offset. In the other reading of U8 (log 18) the
sum stays in the page of a locked pointer. The second byte is at `(EA + 1) mod 65536` in both, as R160 gives it. -/
def State.spLoc (s : State) (b : Byte) : Loc :=
  let k := s.stackPtr
  let v := s.sp k
  match s.cfg.spSum with
  | .plain => .next (v + 1 + zext b)
  | .pageLocked => .next (if k.locked v then joinBytes (hiByte v) (loByte v + 1 + b) else v + 1 + zext b)

/-- One more level of indirection when IND is set (R131). -/
def State.throughInd (s : State) (a : Word) : Word := if s.pre.ind then s.pointerAt a else a

/-- The bytes of a mode's operand (R136 to R171). Indirection by IND comes before indexing (R131). DESIGN CHOICE (log
16): the offset of `bp,B` is signed under OSX too, and its sum plain 16-bit whatever reading of U8 is chosen. -/
def State.loc (s : State) : Mode → Loc
  | .zp b => if s.pre.ind then .next (s.zpPointer b) else zpLoc b
  | .zpX b => if s.pre.ind then .next (s.zpPointer b + s.xIndex) else s.zpIndexed s.xIndex b
  | .zpY b => if s.pre.ind then .next (s.zpPointer b + s.yIndex) else s.zpIndexed s.yIndex b
  | .zpInd b => .next (s.throughInd (s.zpPointer b))
  | .zpXInd b =>
    if s.pre.ind then .next (s.pointerAt (s.zpPointer b) + s.xIndex)
    else .next (s.readPair (s.zpIndexed s.xIndex b))
  | .zpIndY b => .next (s.throughInd (s.zpPointer b) + s.yIndex)
  | .abs w => .next (s.throughInd w)
  | .absX w => .next (s.throughInd w + s.xIndex)
  | .absY w => .next (s.throughInd w + s.yIndex)
  | .sp b => if s.pre.ind then .next (s.readPair (s.spLoc b)) else s.spLoc b
  | .spIndY b => .next (s.throughInd (s.readPair (s.spLoc b)) + s.yIndex)
  | .bp b => .next (s.throughInd (s.bpBase + sext b))
  | .ip _ => .next (s.throughInd s.ip)

/-- The state once the mode's register is past its operand: IP, for `ip,I++` (R170, R171), by the operand's width, or by
2 under IND. -/
def State.past (s : State) : Mode → State
  | .ip _ => { s with ip := s.ip + (if s.pre.ind || s.wide then 2 else 1) }
  | .zp _ | .zpX _ | .zpY _ | .zpInd _ | .zpXInd _ | .zpIndY _ | .abs _ | .absX _ | .absY _ | .sp _ | .spIndY _
  | .bp _ => s

/-- The operand byte has a meaning: of `ip,I++`, only 0 (R170, U10). -/
def modeDefined : Mode → Bool
  | .ip b => decide (b = 0)
  | .zp _ | .zpX _ | .zpY _ | .zpInd _ | .zpXInd _ | .zpIndY _ | .abs _ | .absX _ | .absY _ | .sp _ | .spIndY _
  | .bp _ => true

/-- How many bytes the opcode and the operand are (R101). -/
def modeSize : Mode → Nat
  | .abs _ | .absX _ | .absY _ => 3
  | .zp _ | .zpX _ | .zpY _ | .zpInd _ | .zpXInd _ | .zpIndY _ | .sp _ | .spIndY _ | .bp _ | .ip _ => 2

/-! ### Shapes of use -/

/-- A memory instruction completes with what `body` makes of the operand's place, in the state past the operand; or it
is refused, for an `ip` byte without a meaning. -/
def State.withMode (s : State) (m : Mode) (body : State → Loc → State) : Answer :=
  if modeDefined m then .next ((body (s.past m) (s.loc m)).retire (modeSize m)) else .refused .ipOperandNonzero

/-- An instruction that reads its memory operand at the operation width. -/
def State.reading (s : State) (m : Mode) (use : State → Word → State) : Answer :=
  s.withMode m fun t l => use t (s.readOp s.wide l)

/-- An instruction that writes a value to its memory operand at the operation width. -/
def State.writing (s : State) (m : Mode) (v : Word) : Answer :=
  s.withMode m fun t l => t.writeOp s.wide l v

/-- A read-modify-write instruction (R132, R422): the value read, the value written to the same place, and what else
follows from the value read. -/
def State.changing (s : State) (m : Mode) (f : Word → Word) (use : State → Word → State) : Answer :=
  s.withMode m fun t l =>
    let v := s.readOp s.wide l
    (use t v).writeOp s.wide l (f v)

/-- An instruction with an immediate operand (R135), which IND does not change. -/
def State.immediate (s : State) (imm : Imm) (use : State → Word → State) : Answer :=
  .next ((use s imm.value).retire (1 + imm.size))

/-- An instruction of one byte, with the effect `s` has. -/
def State.done (s : State) : Answer := .next (s.retire 1)

end Sys2Proof.Machine
end

