-- ==== Sys2Proof/Machine/Shift.lean ====
section
/-!
DEFINITION. Shifts and rotates (47_shift_rotate.md).
-/

namespace Sys2Proof.Machine

/-- C. -/
def State.setC (s : State) (c : Bool) : State := s.setP { s.p with c := c }

/-- A shift of the accumulator (R420): the result, N, Z, and C the bit shifted out. -/
def State.shiftAcc (s : State) (k : ShiftKind) : State :=
  let r := k.apply s.wide s.p.c (s.reg s.accReg)
  (s.load s.accReg r.value).setC r.carry

/-- A shift of memory (R420, R422). -/
def State.shiftMem (s : State) (k : ShiftKind) (m : Mode) : Answer :=
  s.changing m (fun v => (k.apply s.wide s.p.c v).value) fun t v =>
    let r := k.apply s.wide s.p.c v
    (t.setNZ r.value).setC r.carry

/-- V unspecified (R432, U19). DESIGN CHOICE: a free value (log 29). -/
def State.freeV (s : State) : State := (s.setP { s.p with v := s.freeBit 0 }).drawn 1

/-- `asl A` (R425). -/
def execAslA (s : State) : Answer := (s.shiftAcc .asl).done

/-- `asl` on memory (R425). -/
def execAsl (m : Mode) (s : State) : Answer := s.shiftMem .asl m

/-- `rol A` (R426). -/
def execRolA (s : State) : Answer := (s.shiftAcc .rol).done

/-- `rol` on memory (R426). -/
def execRol (m : Mode) (s : State) : Answer := s.shiftMem .rol m

/-- `lsr A` (R427). -/
def execLsrA (s : State) : Answer := (s.shiftAcc .lsr).done

/-- `lsr` on memory (R427). -/
def execLsr (m : Mode) (s : State) : Answer := s.shiftMem .lsr m

/-- `ror A` (R428). -/
def execRorA (s : State) : Answer := (s.shiftAcc .ror).done

/-- `ror` on memory (R428). -/
def execRor (m : Mode) (s : State) : Answer := s.shiftMem .ror m

/-- `asl A` (R432): as `asl A`, and V is written with an unspecified value. -/
def execAslAV (s : State) : Answer := (s.shiftAcc .asl).freeV.done

/-- `rol A` (R432): as `rol A`, and V is written with an unspecified value. -/
def execRolAV (s : State) : Answer := (s.shiftAcc .rol).freeV.done

/-- `asr A` (R433): the decoder gives this form with SIZ clear. -/
def execAsr (s : State) : Answer := (s.shiftAcc .asr).done

/-- `asr.w A` (R433): the decoder gives this form with SIZ set. -/
def execAsrW (s : State) : Answer := (s.shiftAcc .asr).done

end Sys2Proof.Machine
end

