-- ==== Sys2Proof/Machine/Arithmetic.lean ====
section
/-!
DEFINITION. Addition, subtraction, comparison, increment and decrement (48_arithmetic.md).
-/

namespace Sys2Proof.Machine

/-- C and V. -/
def State.setCV (s : State) (c v : Bool) : State := s.setP { s.p with c := c, v := v }

/-- The accumulator and all four flags of a binary sum (R441). -/
def State.takeSum (s : State) (r : Sum) : State := (s.load s.accReg r.value).setCV r.carry r.overflow

/-- The accumulator and the flags of a decimal sum of valid operands (R442); V is unspecified: a free value (log 25). -/
def State.takeDecimal (s : State) (r : DecSum) : State :=
  ((s.load s.accReg (zext r.value)).setCV r.carry (s.freeBit 0)).drawn 1

/-- The result of a decimal sum of invalid operands, and all four flags (R442, U20): free values (log 26). -/
def State.takeInvalid (s : State) : State :=
  ((s.setReg s.accReg (zext (loByte (s.freeWord 0)))).setP
    { s.p with n := s.freeBit 0, v := s.freeBit 1, z := s.freeBit 2, c := s.freeBit 3 }).drawn 4

/-- The operation is decimal (R442): D is set and the width is 8 bits. -/
def State.decimal (s : State) : Bool := s.p.d && !s.wide

/-- A decimal addition or subtraction (R442). -/
def State.decimalWith (s : State) (f : Byte → Byte → Bool → DecSum) (v : Word) : State :=
  let l := loByte (s.reg s.accReg)
  let r := loByte v
  if bcdValid l && bcdValid r then s.takeDecimal (f l r s.p.c) else s.takeInvalid

/-- `adc` of an operand (R445). -/
def State.addCarry (s : State) (v : Word) : State :=
  if s.decimal then s.decimalWith decimalAdd v
  else s.takeSum (addWith s.wide (s.reg s.accReg) v s.p.c)

/-- `sbc` of an operand (R446). -/
def State.subCarry (s : State) (v : Word) : State :=
  if s.decimal then s.decimalWith decimalSub v
  else s.takeSum (subWith s.wide (s.reg s.accReg) v s.p.c)

/-- `add` and `sub` where D is set and the width is 8 bits (R460, U15): the result and then C and V are unspecified, N
and Z are those of the result. DESIGN CHOICE: free values (log 30). -/
def State.takeUnruled (s : State) : State :=
  ((s.load s.accReg (s.freeWord 0)).setCV (s.freeBit 0) (s.freeBit 1)).drawn 2

/-- `add ip,I++` and `sub ip,I++` of an operand (R460, R461). -/
def State.addPlain (s : State) (r : Sum) : State := if s.decimal then s.takeUnruled else s.takeSum r

/-- A comparison (R447): N, Z and C of the difference, and V when it is 16-bit. -/
def State.compare (s : State) (r : Reg) (v : Word) : State :=
  let d := subWith s.wide (s.reg r) v true
  s.setP { s.p.setNZ s.wide d.value with c := d.carry, v := if s.wide then d.overflow else s.p.v }

/-- Memory plus a constant at the operation width, with N and Z (R450, R451). -/
def State.stepMem (s : State) (m : Mode) (k : Word) : Answer :=
  s.changing m (fun v => v + k) fun t v => t.setNZ (v + k)

/-- A register plus a constant at the operation width, with N and Z, which are unspecified for S (R452 to R457). -/
def State.stepReg (s : State) (r : Reg) (k : Word) : State := s.load r (s.reg r + k)

/-! ### Add, subtract, compare -/

/-- `adc` on memory (R445). -/
def execAdc (m : Mode) (s : State) : Answer := s.reading m fun t v => t.addCarry v

/-- `adc #imm` (R445). -/
def execAdcImm (imm : Imm) (s : State) : Answer := s.immediate imm fun t v => t.addCarry v

/-- `sbc` on memory (R446). -/
def execSbc (m : Mode) (s : State) : Answer := s.reading m fun t v => t.subCarry v

/-- `sbc #imm` (R446). -/
def execSbcImm (imm : Imm) (s : State) : Answer := s.immediate imm fun t v => t.subCarry v

/-- `cmp` on memory (R447). -/
def execCmp (m : Mode) (s : State) : Answer := s.reading m fun t v => t.compare t.accReg v

/-- `cmp #imm` (R447). -/
def execCmpImm (imm : Imm) (s : State) : Answer := s.immediate imm fun t v => t.compare t.accReg v

/-- `cpx` on memory (R448). -/
def execCpx (m : Mode) (s : State) : Answer := s.reading m fun t v => t.compare t.xReg v

/-- `cpx #imm` (R448). -/
def execCpxImm (imm : Imm) (s : State) : Answer := s.immediate imm fun t v => t.compare t.xReg v

/-- `cpy` on memory (R449). -/
def execCpy (m : Mode) (s : State) : Answer := s.reading m fun t v => t.compare t.yReg v

/-- `cpy #imm` (R449). -/
def execCpyImm (imm : Imm) (s : State) : Answer := s.immediate imm fun t v => t.compare t.yReg v

/-- `cps` on memory (R448). -/
def execCps (m : Mode) (s : State) : Answer := s.reading m fun t v => t.compare .sp v

/-- `cps #imm` (R448). -/
def execCpsImm (imm : Imm) (s : State) : Answer := s.immediate imm fun t v => t.compare .sp v

/-- `add ip,I++` (R460). -/
def execAdd (ip : Byte) (s : State) : Answer :=
  s.reading (.ip ip) fun t v => t.addPlain (addWith t.wide (t.reg t.accReg) v false)

/-- `sub ip,I++` (R461). -/
def execSub (ip : Byte) (s : State) : Answer :=
  s.reading (.ip ip) fun t v => t.addPlain (subWith t.wide (t.reg t.accReg) v true)

/-! ### Increment and decrement -/

/-- `inc` on memory (R450). -/
def execInc (m : Mode) (s : State) : Answer := s.stepMem m 1

/-- `dec` on memory (R451). -/
def execDec (m : Mode) (s : State) : Answer := s.stepMem m (-1)

/-- `inc A` (R452). -/
def execIncA (s : State) : Answer := (s.stepReg s.accReg 1).done

/-- `dec A` (R453). -/
def execDecA (s : State) : Answer := (s.stepReg s.accReg (-1)).done

/-- `inx` (R454). -/
def execInx (s : State) : Answer := (s.stepReg s.xReg 1).done

/-- `dex` (R456). -/
def execDex (s : State) : Answer := (s.stepReg s.xReg (-1)).done

/-- `iny` (R455). -/
def execIny (s : State) : Answer := (s.stepReg s.yReg 1).done

/-- `dey` (R457). -/
def execDey (s : State) : Answer := (s.stepReg s.yReg (-1)).done

/-- `ins` (R454). -/
def execIns (s : State) : Answer := (s.stepReg .sp 1).done

/-- `des` (R456). -/
def execDes (s : State) : Answer := (s.stepReg .sp (-1)).done

/-- `inc A` under IND (R466): C is set when the result is zero, by the spec's decision D39 (log 45). -/
def execIncAC (s : State) : Answer := ((s.stepReg s.accReg 1).setC (isZero s.wide (s.reg s.accReg + 1))).done

/-- `dec A` under IND (R466): C is set when the operand is not zero, by the spec's decision D39 (log 45). -/
def execDecAC (s : State) : Answer := ((s.stepReg s.accReg (-1)).setC (!isZero s.wide (s.reg s.accReg))).done

end Sys2Proof.Machine
end

