-- ==== Sys2Proof/Machine/Logical.lean ====
section
/-!
DEFINITION. Logic, bit and flag instructions (46_logical.md).
-/

namespace Sys2Proof.Machine

/-- Accumulator logic (R381). -/
def State.logic (s : State) (op : LogicOp) (v : Word) : State := s.load s.accReg (op.apply (s.reg s.accReg) v)

/-- Z of the accumulator and an operand (R390 to R392). -/
def State.testBits (s : State) (v : Word) : State :=
  s.setP { s.p with z := isZero s.wide (s.reg s.accReg &&& v) }

/-- N and V from the two top bits of an operand (R390). -/
def State.copyTopBits (s : State) (v : Word) : State :=
  s.setP { s.p with n := msb s.wide v, v := if s.wide then v.getLsbD 14 else v.getLsbD 6 }

/-- The byte that a Rockwell bit instruction acts on (R393, R164): always one byte, at the zero-page address, or where
the pointer there points under IND. -/
def State.bitAddress (s : State) (zp : Byte) : Word := (s.loc (.zp zp)).first

/-- A byte with one bit alone set. -/
def bitMask (n : Nat) : Byte := 1 <<< n

/-- `rmbN` (R393). -/
def State.resetBit (s : State) (zp : Byte) (n : Nat) : Answer :=
  .next ((s.writeByte (s.bitAddress zp) (s.readByte (s.bitAddress zp) &&& ~~~ bitMask n)).retire 2)

/-- `smbN` (R394). -/
def State.setBit (s : State) (zp : Byte) (n : Nat) : Answer :=
  .next ((s.writeByte (s.bitAddress zp) (s.readByte (s.bitAddress zp) ||| bitMask n)).retire 2)

/-! ### Accumulator logic (R381) -/

/-- `ora` on memory (R384). -/
def execOra (m : Mode) (s : State) : Answer := s.reading m fun t v => t.logic .ora v

/-- `ora #imm` (R384). -/
def execOraImm (imm : Imm) (s : State) : Answer := s.immediate imm fun t v => t.logic .ora v

/-- `and` on memory (R385). -/
def execAnd (m : Mode) (s : State) : Answer := s.reading m fun t v => t.logic .and v

/-- `and #imm` (R385). -/
def execAndImm (imm : Imm) (s : State) : Answer := s.immediate imm fun t v => t.logic .and v

/-- `eor` on memory (R386). -/
def execEor (m : Mode) (s : State) : Answer := s.reading m fun t v => t.logic .eor v

/-- `eor #imm` (R386). -/
def execEorImm (imm : Imm) (s : State) : Answer := s.immediate imm fun t v => t.logic .eor v

/-! ### Bit test and bit modify -/

/-- `bit` on memory (R390). -/
def execBit (m : Mode) (s : State) : Answer := s.reading m fun t v => (t.testBits v).copyTopBits v

/-- `bit #imm` (R390): Z only. -/
def execBitImm (imm : Imm) (s : State) : Answer := s.immediate imm fun t v => t.testBits v

/-- `tsb` on memory (R391). -/
def execTsb (m : Mode) (s : State) : Answer := s.changing m (fun v => v ||| s.reg s.accReg) fun t v => t.testBits v

/-- `trb` on memory (R392). -/
def execTrb (m : Mode) (s : State) : Answer :=
  s.changing m (fun v => v &&& ~~~ s.reg s.accReg) fun t v => t.testBits v

/-- `rmb0 zp` (R393). -/
def execRmb0 (zp : Byte) (s : State) : Answer := s.resetBit zp 0

/-- `rmb1 zp` (R393). -/
def execRmb1 (zp : Byte) (s : State) : Answer := s.resetBit zp 1

/-- `rmb2 zp` (R393). -/
def execRmb2 (zp : Byte) (s : State) : Answer := s.resetBit zp 2

/-- `rmb3 zp` (R393). -/
def execRmb3 (zp : Byte) (s : State) : Answer := s.resetBit zp 3

/-- `rmb4 zp` (R393). -/
def execRmb4 (zp : Byte) (s : State) : Answer := s.resetBit zp 4

/-- `rmb5 zp` (R393). -/
def execRmb5 (zp : Byte) (s : State) : Answer := s.resetBit zp 5

/-- `rmb6 zp` (R393). -/
def execRmb6 (zp : Byte) (s : State) : Answer := s.resetBit zp 6

/-- `rmb7 zp` (R393). -/
def execRmb7 (zp : Byte) (s : State) : Answer := s.resetBit zp 7

/-- `smb0 zp` (R394). -/
def execSmb0 (zp : Byte) (s : State) : Answer := s.setBit zp 0

/-- `smb1 zp` (R394). -/
def execSmb1 (zp : Byte) (s : State) : Answer := s.setBit zp 1

/-- `smb2 zp` (R394). -/
def execSmb2 (zp : Byte) (s : State) : Answer := s.setBit zp 2

/-- `smb3 zp` (R394). -/
def execSmb3 (zp : Byte) (s : State) : Answer := s.setBit zp 3

/-- `smb4 zp` (R394). -/
def execSmb4 (zp : Byte) (s : State) : Answer := s.setBit zp 4

/-- `smb5 zp` (R394). -/
def execSmb5 (zp : Byte) (s : State) : Answer := s.setBit zp 5

/-- `smb6 zp` (R394). -/
def execSmb6 (zp : Byte) (s : State) : Answer := s.setBit zp 6

/-- `smb7 zp` (R394). -/
def execSmb7 (zp : Byte) (s : State) : Answer := s.setBit zp 7

/-! ### Flag instructions (R400) -/

/-- `clc` (R401). -/
def execClc (s : State) : Answer := (s.setP { s.p with c := false }).done

/-- `sec` (R402). -/
def execSec (s : State) : Answer := (s.setP { s.p with c := true }).done

/-- `cli` (R403). -/
def execCli (s : State) : Answer := (s.setP { s.p with i := false }).done

/-- `sei` (R404). -/
def execSei (s : State) : Answer := (s.setP { s.p with i := true }).done

/-- `clv` (R405). -/
def execClv (s : State) : Answer := (s.setP { s.p with v := false }).done

/-- `cld` (R406). -/
def execCld (s : State) : Answer := (s.setP { s.p with d := false }).done

/-- `sed` (R407). -/
def execSed (s : State) : Answer := (s.setP { s.p with d := true }).done

end Sys2Proof.Machine
end

