-- ==== Sys2Proof/Machine/Control.lean ====
section
/-!
DEFINITION. Branches, jumps, calls, returns and brk (49_program_control.md).
-/

namespace Sys2Proof.Machine

/-- A branch (R480): `n` bytes are the opcode and its operand. -/
def State.branch (s : State) (k : Cond) (n : Nat) (disp : Word) : Answer :=
  .next (s.jump (if k.holds s.p then s.pcNext n + disp else s.pcNext n))

/-- A branch with an 8-bit displacement (R154). -/
def State.shortBranch (s : State) (k : Cond) (rel : Byte) : Answer := s.branch k 2 (sext rel)

/-- A branch with a 16-bit displacement (R488). -/
def State.longBranch (s : State) (k : Cond) (rel : Word) : Answer := s.branch k 3 rel

/-- `bbrN` and `bbsN` (R495, R496): taken when bit `n` of the byte is `want`. -/
def State.bitBranch (s : State) (zp rel : Byte) (n : Nat) (want : Bool) : Answer :=
  let taken := (s.readByte (s.bitAddress zp)).getLsbD n == want
  .next (s.jump (if taken then s.pcNext 3 + sext rel else s.pcNext 3))

/-- What `brk` adds to the address of its opcode (R520). -/
def brkOffset : BrkOffset → Word
  | .one => 1
  | .two => 2

/-! ### Branches with a base condition (R481 to R491, R488) -/

/-- `bpl rel` (R481). -/
def execBpl (rel : Byte) (s : State) : Answer := s.shortBranch .pl rel

/-- `bmi rel` (R482). -/
def execBmi (rel : Byte) (s : State) : Answer := s.shortBranch .mi rel

/-- `bvc rel` (R483). -/
def execBvc (rel : Byte) (s : State) : Answer := s.shortBranch .vc rel

/-- `bvs rel` (R484). -/
def execBvs (rel : Byte) (s : State) : Answer := s.shortBranch .vs rel

/-- `bra rel` (R485). -/
def execBra (rel : Byte) (s : State) : Answer := s.shortBranch .always rel

/-- `bcc rel` (R486). -/
def execBcc (rel : Byte) (s : State) : Answer := s.shortBranch .cc rel

/-- `bcs rel` (R487). -/
def execBcs (rel : Byte) (s : State) : Answer := s.shortBranch .cs rel

/-- `bne rel` (R489). -/
def execBne (rel : Byte) (s : State) : Answer := s.shortBranch .ne rel

/-- `beq rel` (R491). -/
def execBeq (rel : Byte) (s : State) : Answer := s.shortBranch .eq rel

/-- `jpl rel16` (R488). -/
def execJpl (rel : Word) (s : State) : Answer := s.longBranch .pl rel

/-- `jmi rel16` (R488). -/
def execJmi (rel : Word) (s : State) : Answer := s.longBranch .mi rel

/-- `jvc rel16` (R488). -/
def execJvc (rel : Word) (s : State) : Answer := s.longBranch .vc rel

/-- `jvs rel16` (R488). -/
def execJvs (rel : Word) (s : State) : Answer := s.longBranch .vs rel

/-- `jrl rel16` (R488). -/
def execJrl (rel : Word) (s : State) : Answer := s.longBranch .always rel

/-- `jcc rel16` (R488). -/
def execJcc (rel : Word) (s : State) : Answer := s.longBranch .cc rel

/-- `jcs rel16` (R488). -/
def execJcs (rel : Word) (s : State) : Answer := s.longBranch .cs rel

/-- `jne rel16` (R488). -/
def execJne (rel : Word) (s : State) : Answer := s.longBranch .ne rel

/-- `jeq rel16` (R488). -/
def execJeq (rel : Word) (s : State) : Answer := s.longBranch .eq rel

/-! ### Branches with an extended condition (R490) -/

/-- `ble rel8` (R490). -/
def execBle (rel : Byte) (s : State) : Answer := s.shortBranch .le rel

/-- `bgt rel8` (R490). -/
def execBgt (rel : Byte) (s : State) : Answer := s.shortBranch .gt rel

/-- `blt rel8` (R490). -/
def execBlt (rel : Byte) (s : State) : Answer := s.shortBranch .lt rel

/-- `bge rel8` (R490). -/
def execBge (rel : Byte) (s : State) : Answer := s.shortBranch .ge rel

/-- `bhs rel8` (R490). -/
def execBhs (rel : Byte) (s : State) : Answer := s.shortBranch .hs rel

/-- `blo rel8` (R490). -/
def execBlo (rel : Byte) (s : State) : Answer := s.shortBranch .lo rel

/-- `bhi rel8` (R490). -/
def execBhi (rel : Byte) (s : State) : Answer := s.shortBranch .hi rel

/-- `bls rel8` (R490). -/
def execBls (rel : Byte) (s : State) : Answer := s.shortBranch .ls rel

/-- `jle rel16` (R490). -/
def execJle (rel : Word) (s : State) : Answer := s.longBranch .le rel

/-- `jgt rel16` (R490). -/
def execJgt (rel : Word) (s : State) : Answer := s.longBranch .gt rel

/-- `jlt rel16` (R490). -/
def execJlt (rel : Word) (s : State) : Answer := s.longBranch .lt rel

/-- `jge rel16` (R490). -/
def execJge (rel : Word) (s : State) : Answer := s.longBranch .ge rel

/-- `jhs rel16` (R490). -/
def execJhs (rel : Word) (s : State) : Answer := s.longBranch .hs rel

/-- `jlo rel16` (R490). -/
def execJlo (rel : Word) (s : State) : Answer := s.longBranch .lo rel

/-- `jhi rel16` (R490). -/
def execJhi (rel : Word) (s : State) : Answer := s.longBranch .hi rel

/-- `jls rel16` (R490). -/
def execJls (rel : Word) (s : State) : Answer := s.longBranch .ls rel

/-! ### Bit test and branch -/

/-- `bbr0 zp,rel` (R495). -/
def execBbr0 (zp : Byte) (rel : Byte) (s : State) : Answer := s.bitBranch zp rel 0 false

/-- `bbr1 zp,rel` (R495). -/
def execBbr1 (zp : Byte) (rel : Byte) (s : State) : Answer := s.bitBranch zp rel 1 false

/-- `bbr2 zp,rel` (R495). -/
def execBbr2 (zp : Byte) (rel : Byte) (s : State) : Answer := s.bitBranch zp rel 2 false

/-- `bbr3 zp,rel` (R495). -/
def execBbr3 (zp : Byte) (rel : Byte) (s : State) : Answer := s.bitBranch zp rel 3 false

/-- `bbr4 zp,rel` (R495). -/
def execBbr4 (zp : Byte) (rel : Byte) (s : State) : Answer := s.bitBranch zp rel 4 false

/-- `bbr5 zp,rel` (R495). -/
def execBbr5 (zp : Byte) (rel : Byte) (s : State) : Answer := s.bitBranch zp rel 5 false

/-- `bbr6 zp,rel` (R495). -/
def execBbr6 (zp : Byte) (rel : Byte) (s : State) : Answer := s.bitBranch zp rel 6 false

/-- `bbr7 zp,rel` (R495). -/
def execBbr7 (zp : Byte) (rel : Byte) (s : State) : Answer := s.bitBranch zp rel 7 false

/-- `bbs0 zp,rel` (R496). -/
def execBbs0 (zp : Byte) (rel : Byte) (s : State) : Answer := s.bitBranch zp rel 0 true

/-- `bbs1 zp,rel` (R496). -/
def execBbs1 (zp : Byte) (rel : Byte) (s : State) : Answer := s.bitBranch zp rel 1 true

/-- `bbs2 zp,rel` (R496). -/
def execBbs2 (zp : Byte) (rel : Byte) (s : State) : Answer := s.bitBranch zp rel 2 true

/-- `bbs3 zp,rel` (R496). -/
def execBbs3 (zp : Byte) (rel : Byte) (s : State) : Answer := s.bitBranch zp rel 3 true

/-- `bbs4 zp,rel` (R496). -/
def execBbs4 (zp : Byte) (rel : Byte) (s : State) : Answer := s.bitBranch zp rel 4 true

/-- `bbs5 zp,rel` (R496). -/
def execBbs5 (zp : Byte) (rel : Byte) (s : State) : Answer := s.bitBranch zp rel 5 true

/-- `bbs6 zp,rel` (R496). -/
def execBbs6 (zp : Byte) (rel : Byte) (s : State) : Answer := s.bitBranch zp rel 6 true

/-- `bbs7 zp,rel` (R496). -/
def execBbs7 (zp : Byte) (rel : Byte) (s : State) : Answer := s.bitBranch zp rel 7 true

/-! ### Jumps, calls and returns -/

/-- `jmp abs` (R500). -/
def execJmpAbs (abs : Word) (s : State) : Answer := .next (s.jump (s.throughInd abs))

/-- `jmp (abs)` (R501). -/
def execJmpInd (abs : Word) (s : State) : Answer := .next (s.jump (s.throughInd (s.pointerAt abs)))

/-- `jmp (abs,X)` (R502). -/
def execJmpIndX (abs : Word) (s : State) : Answer :=
  .next (s.jump
    (if s.pre.ind then s.pointerAt (s.pointerAt abs) + s.xIndex else s.pointerAt (abs + s.xIndex)))

/-- `jsr abs` (R505). -/
def execJsr (abs : Word) (s : State) : Answer :=
  let t := s.push16 s.stackPtr (s.pcNext 3 - 1)
  .next (t.jump (t.throughInd abs))

/-- `rts` (R506). -/
def execRts (s : State) : Answer := .next ((s.pulled16 s.stackPtr).jump (s.pull16 s.stackPtr + 1))

/-- `rti` (R510). -/
def execRti (s : State) : Answer := .next (s.returnFrom s.stackPtr)

/-- `brk #imm` (R520): the trap; the core does not use the operand byte. -/
def execBrk (_ : Byte) (s : State) : Answer :=
  .next (s.enter (s.pc + brkOffset s.cfg.brkPushOffset) true s.cfg.vecBrk)

end Sys2Proof.Machine
end

