-- ==== Sys2Proof/Machine/Forth.lean ====
section
/-!
DEFINITION. FORTH virtual machine instructions (43_forth_vm.md).
-/

namespace Sys2Proof.Machine

/-- The NEXT step (R243): W takes the word at IP, IP passes it, and the pc is W, or the word at W when `itc`. -/
def State.nextWord (s : State) (itc : Bool) : State :=
  let v := s.pointerAt s.ip
  let t : State := { s with w := v, ip := s.ip + 2 }
  t.jump (if itc then t.pointerAt v else v)

/-- ENT_IP_OFFSET (R246). -/
def entOffset : EntOffset → Word
  | .two => 2
  | .zero => 0

/-- ENTER (R246, R247): IP is pushed, IP becomes W plus the offset, then NEXT. -/
def State.enterWord (s : State) (itc : Bool) : State :=
  ({ s.push16 s.vmPtr s.ip with ip := s.w + entOffset s.cfg.entIpOffset } : State).nextWord itc

/-- `nxt` (R244). -/
def execNxt (s : State) : Answer := .next (s.nextWord false)

/-- `nxt (ITC)` (R245). -/
def execNxtItc (s : State) : Answer := .next (s.nextWord true)

/-- `ent` (R246). -/
def execEnt (s : State) : Answer := .next (s.enterWord false)

/-- `ent (ITC)` (R247). -/
def execEntItc (s : State) : Answer := .next (s.enterWord true)

/-- `phi` (R248). -/
def execPhi (s : State) : Answer := (s.push16 s.vmPtr s.ip).done

/-- `phw` (R250). -/
def execPhw (s : State) : Answer := (s.push16 s.vmPtr s.w).done

/-- `pli` (R249). -/
def execPli (s : State) : Answer := ({ s.pulled16 s.vmPtr with ip := s.pull16 s.vmPtr } : State).done

/-- `plw` (R251). -/
def execPlw (s : State) : Answer := ({ s.pulled16 s.vmPtr with w := s.pull16 s.vmPtr } : State).done

/-- `ini` (R253). -/
def execIni (s : State) : Answer := ({ s with ip := s.ip + 1 } : State).done

/-- `inw` (R252). -/
def execInw (s : State) : Answer := ({ s with w := s.w + 1 } : State).done

end Sys2Proof.Machine
end

