-- ==== Sys2Proof/Machine/LoadStore.lean ====
section
/-!
DEFINITION. Loads, stores and register transfers (45_load_store_transfer.md).
-/

namespace Sys2Proof.Machine

/-- A register transfer (R350): the destination at the operation width, with its N and Z. -/
def State.transfer (s : State) (dst src : Reg) : State := s.load dst (s.reg src)

/-! ### Loads (R330) -/

/-- `lda` on memory (R260, R335). -/
def execLda (m : Mode) (s : State) : Answer := s.reading m fun t v => t.load t.accReg v

/-- `lda #imm` (R335). -/
def execLdaImm (imm : Imm) (s : State) : Answer := s.immediate imm fun t v => t.load t.accReg v

/-- `ldx` on memory (R336). -/
def execLdx (m : Mode) (s : State) : Answer := s.reading m fun t v => t.load t.xReg v

/-- `ldx #imm` (R336). -/
def execLdxImm (imm : Imm) (s : State) : Answer := s.immediate imm fun t v => t.load t.xReg v

/-- `ldy` on memory (R337). -/
def execLdy (m : Mode) (s : State) : Answer := s.reading m fun t v => t.load t.yReg v

/-- `ldy #imm` (R337). -/
def execLdyImm (imm : Imm) (s : State) : Answer := s.immediate imm fun t v => t.load t.yReg v

/-- `lds` on memory (R330, R336): into S, and N and Z are unspecified. -/
def execLds (m : Mode) (s : State) : Answer := s.reading m fun t v => t.load .sp v

/-- `lds #imm` (R330, R336). -/
def execLdsImm (imm : Imm) (s : State) : Answer := s.immediate imm fun t v => t.load .sp v

/-! ### Stores (R331) -/

/-- `sta` on memory (R261, R340). -/
def execSta (m : Mode) (s : State) : Answer := s.writing m (s.reg s.accReg)

/-- `stx` on memory (R341). -/
def execStx (m : Mode) (s : State) : Answer := s.writing m (s.reg s.xReg)

/-- `sty` on memory (R342). -/
def execSty (m : Mode) (s : State) : Answer := s.writing m (s.reg s.yReg)

/-- `stz` on memory (R343). -/
def execStz (m : Mode) (s : State) : Answer := s.writing m 0

/-- `sts` on memory (R331, R341). -/
def execSts (m : Mode) (s : State) : Answer := s.writing m s.sys

/-! ### Transfers (R350) -/

/-- `tax` (R351). -/
def execTax (s : State) : Answer := (s.transfer s.xReg s.accReg).done

/-- `txa` (R352). -/
def execTxa (s : State) : Answer := (s.transfer s.accReg s.xReg).done

/-- `tay` (R353). -/
def execTay (s : State) : Answer := (s.transfer s.yReg s.accReg).done

/-- `tya` (R354). -/
def execTya (s : State) : Answer := (s.transfer s.accReg s.yReg).done

/-- `tas` (R351, R365): into the pointer of R365, and N and Z are unspecified. -/
def execTas (s : State) : Answer := (s.setTransferSp (Reg.sp.stored s.wide (s.reg s.accReg))).freeNZ.done

/-- `tsa` (R352, R365): from the pointer of R365. -/
def execTsa (s : State) : Answer := (s.load s.accReg s.transferSp).done

/-- `txs` (R355): no flag; nothing is defined under OSX (U11). -/
def execTxs (s : State) : Answer :=
  if s.pre.osx then .refused .osxTransfer
  else (s.setTransferSp (Reg.sp.stored s.wide (s.reg s.xReg))).done

/-- `tsx` (R356): no flag; nothing is defined under OSX (U11). -/
def execTsx (s : State) : Answer :=
  if s.pre.osx then .refused .osxTransfer
  else (s.setReg s.xReg (s.xReg.stored s.wide s.transferSp)).done

end Sys2Proof.Machine
end

