-- ==== Sys2Proof/Machine/Modifiers.lean ====
section
/-!
DEFINITION. The prefix instructions (41_prefix.md): each sets flags for the instruction after it.
-/

namespace Sys2Proof.Machine

/-- A prefix instruction (R190): the flags change, the pc passes one byte, and nothing else changes. -/
def State.prefixed (s : State) (f : PrefixFlags) : Answer := .next { s with pre := f, pc := s.pc + 1 }

/-- `ind` (R193). -/
def execInd (s : State) : Answer := s.prefixed { s.pre with ind := true }

/-- `siz` (R194). -/
def execSiz (s : State) : Answer := s.prefixed { s.pre with siz := true }

/-- `isz` (R195). -/
def execIsz (s : State) : Answer := s.prefixed { s.pre with ind := true, siz := true }

/-- `oax` (R196). -/
def execOax (s : State) : Answer := s.prefixed { s.pre with oax := true, oay := false, osx := false }

/-- `oay` (R197). -/
def execOay (s : State) : Answer := s.prefixed { s.pre with oay := true, oax := false }

/-- `osx` (R198). -/
def execOsx (s : State) : Answer := s.prefixed { s.pre with osx := true, oax := false }

end Sys2Proof.Machine
end

