-- ==== Sys2Proof/Machine/Registers.lean ====
section
/-!
DEFINITION. Register stack instructions (42_register_stack.md).
-/

namespace Sys2Proof.Machine

/-- The register stack that OAX and OAY select (R221), changed as a whole. -/
def State.mapStack (s : State) (f : RegStack → RegStack) : State :=
  if s.pre.oax then { s with x := f s.x }
  else if s.pre.oay then { s with y := f s.y }
  else { s with a := f s.a }

/-- An extended register-stack instruction, which exists for the A register stack only (R206, U12). -/
def State.onlyA (s : State) (t : State) : Answer :=
  if s.pre.oax || s.pre.oay then .refused .registerStackOverride else t.done

/-- The bits in reverse order (R230). -/
def reverseBits (v : Word) : Word := v.reverse

/-- `dup` (R222). -/
def execDup (s : State) : Answer := (s.mapStack fun r => { tos := r.tos, nos := r.tos, bos := r.nos }).done

/-- `swp` (R223). -/
def execSwp (s : State) : Answer := (s.mapStack fun r => { tos := r.nos, nos := r.tos, bos := r.bos }).done

/-- `rot` (R224). -/
def execRot (s : State) : Answer := (s.mapStack fun r => { tos := r.nos, nos := r.bos, bos := r.tos }).done

/-- `tai` (R226). -/
def execTai (s : State) : Answer := s.onlyA { s with ip := s.a.tos }

/-- `tia` (R227). -/
def execTia (s : State) : Answer := s.onlyA (s.setReg .a s.ip)

/-- `xai` (R228). -/
def execXai (s : State) : Answer := s.onlyA { s.setReg .a s.ip with ip := s.a.tos }

/-- `bsw` (R229). -/
def execBsw (s : State) : Answer := s.onlyA (s.setReg .a (joinBytes (loByte s.a.tos) (hiByte s.a.tos)))

/-- `rev` (R230). -/
def execRev (s : State) : Answer := s.onlyA (s.setReg .a (reverseBits s.a.tos))

end Sys2Proof.Machine
end

