-- ==== Sys2Proof/Machine/Stack.lean ====
section
/-!
DEFINITION. Pushes, pulls, the stack frame and the exchange with memory (44_stack_and_unique.md).
-/

namespace Sys2Proof.Machine

/-- A register push at the operation width (R280 to R283). -/
def State.pushReg (s : State) (r : Reg) : State :=
  if s.wide then s.push16 s.stackPtr (s.reg r) else s.push8 s.stackPtr (loByte (s.reg r))

/-- A register pull at the operation width, with N and Z, which are unspecified for S (R285 to R287). -/
def State.pullReg (s : State) (r : Reg) : State :=
  if s.wide then (s.pulled16 s.stackPtr).load r (s.pull16 s.stackPtr)
  else (s.pulled8 s.stackPtr).load r (zext (s.pull8 s.stackPtr))

/-- PHR_BIAS (R300). -/
def phrOffset : PhrBias → Word
  | .minusOne => -1
  | .zero => 0

/-- A stack pointer plus the signed operand of `adj` (R302): a plain 16-bit sum, or within the page of a locked pointer
in the other reading of U14 (log 19). -/
def State.adjusted (s : State) (imm : Byte) : Word :=
  let v := s.sp s.stackPtr
  match s.cfg.adjSum with
  | .plain => v + sext imm
  | .pageLocked => if s.stackPtr.locked v then joinBytes (hiByte v) (loByte v + imm) else v + sext imm

/-! ### Registers and P -/

/-- `pha` (R281). -/
def execPha (s : State) : Answer := (s.pushReg s.accReg).done

/-- `phx` (R282). -/
def execPhx (s : State) : Answer := (s.pushReg s.xReg).done

/-- `phy` (R283). -/
def execPhy (s : State) : Answer := (s.pushReg s.yReg).done

/-- `phs` (R282). -/
def execPhs (s : State) : Answer := (s.pushReg .sp).done

/-- `pla` (R285). -/
def execPla (s : State) : Answer := (s.pullReg s.accReg).done

/-- `plx` (R286). -/
def execPlx (s : State) : Answer := (s.pullReg s.xReg).done

/-- `ply` (R287). -/
def execPly (s : State) : Answer := (s.pullReg s.yReg).done

/-- `pls` (R286). -/
def execPls (s : State) : Answer := (s.pullReg .sp).done

/-- `php` (R284). -/
def execPhp (s : State) : Answer := (s.push8 s.stackPtr (s.p.toByte true)).done

/-- `plp` (R288). -/
def execPlp (s : State) : Answer := ((s.pulled8 s.stackPtr).setP (s.p.loadFlags (s.pull8 s.stackPtr))).done

/-! ### 16-bit values -/

/-- `psh #imm` (R290). -/
def execPshImm (imm : Word) (s : State) : Answer := .next ((s.push16 s.stackPtr imm).retire 3)

/-- `psh` on memory (R291, R292): always 16-bit. -/
def execPsh (m : Mode) (s : State) : Answer := s.withMode m fun t l => t.push16 t.stackPtr (s.readPair l)

/-- `pul` on memory (R293, R294): always 16-bit. -/
def execPul (m : Mode) (s : State) : Answer :=
  s.withMode m fun t l => (t.pulled16 t.stackPtr).writePair l (s.pull16 s.stackPtr)

/-- `phr rel16` (R300). -/
def execPhr (rel : Word) (s : State) : Answer :=
  .next ((s.push16 s.stackPtr (s.pcNext 3 + rel + phrOffset s.cfg.phrBias)).retire 3)

/-! ### Frame and exchange -/

/-- `adj #imm` (R302). -/
def execAdj (imm : Byte) (s : State) : Answer := .next ((s.setSp s.stackPtr (s.adjusted imm)).retire 2)

/-- `xma sp,S` (R304): N and Z are unspecified. -/
def execXma (sp : Byte) (s : State) : Answer :=
  s.withMode (.sp sp) fun t l =>
    ((t.writeOp t.wide l (t.reg t.accReg)).setReg t.accReg (t.accReg.stored t.wide (s.readOp s.wide l))).freeNZ

end Sys2Proof.Machine
end

