-- ==== Sys2Proof/Machine/System.lean ====
section
/-!
DEFINITION. nop, wai, stp, unassigned opcodes, and the two instructions without a described effect (44_stack_and_unique.md,
30_encoding.md R112).
-/

namespace Sys2Proof.Machine

/-- An unassigned opcode (R112): one byte and no other effect, or the trap through VEC_INV (R545). -/
def State.unassigned (s : State) : Answer :=
  match s.cfg.unusedOpcode with
  | .nop1 => s.done
  | .invTrap => .next (s.enter (s.pcNext 1 - 1) false s.cfg.vecInv)

/-- `nop` (R318). -/
def execNop (s : State) : Answer := s.done

/-- `wai` (R320). -/
def execWai (s : State) : Answer := ({ s with run := .waiting } : State).done

/-- `stp` (R321). -/
def execStp (s : State) : Answer := ({ s with run := .stopped } : State).done

/-- `UNASSIGNED` (R112). -/
def execUnassigned82 (s : State) : Answer := s.unassigned

/-- `UNASSIGNED` (R112). -/
def execUnassigned6F (s : State) : Answer := s.unassigned

/-- `UNASSIGNED` (R112). -/
def execUnassigned8F (s : State) : Answer := s.unassigned

/-- `UNASSIGNED` (R112). -/
def execUnassignedAF (s : State) : Answer := s.unassigned

/-- `cop #imm` (R310): "TBD". -/
def execCop (_ : Byte) (_ : State) : Answer := .refused .copUnspecified

/-- `mov #imm` (R312): the mode byte is not described. -/
def execMov (_ : Byte) (_ : State) : Answer := .refused .movUnspecified

end Sys2Proof.Machine
end

