-- ==== Sys2Proof/Machine/Dispatch.lean ====
section
/-!
DEFINITION. From an instruction to its meaning: one arm for each constructor.
-/

namespace Sys2Proof.Machine

/-- The effect of one instruction whose opcode byte is at the pc (R11, R29), before anything that happens at the
boundary after it. -/
def exec (i : Instr) (s : State) : Host.Outcome State Fault Refusal :=
  match i with
  | .brk imm => Sys2Proof.Machine.execBrk imm s
  | .ora m => Sys2Proof.Machine.execOra m s
  | .cop imm => Sys2Proof.Machine.execCop imm s
  | .tsb m => Sys2Proof.Machine.execTsb m s
  | .asl m => Sys2Proof.Machine.execAsl m s
  | .rmb0 zp => Sys2Proof.Machine.execRmb0 zp s
  | .php => Sys2Proof.Machine.execPhp s
  | .oraImm imm => Sys2Proof.Machine.execOraImm imm s
  | .aslA => Sys2Proof.Machine.execAslA s
  | .dup => Sys2Proof.Machine.execDup s
  | .bbr0 zp rel => Sys2Proof.Machine.execBbr0 zp rel s
  | .bpl rel => Sys2Proof.Machine.execBpl rel s
  | .trb m => Sys2Proof.Machine.execTrb m s
  | .rmb1 zp => Sys2Proof.Machine.execRmb1 zp s
  | .clc => Sys2Proof.Machine.execClc s
  | .incA => Sys2Proof.Machine.execIncA s
  | .swp => Sys2Proof.Machine.execSwp s
  | .bbr1 zp rel => Sys2Proof.Machine.execBbr1 zp rel s
  | .jsr abs => Sys2Proof.Machine.execJsr abs s
  | .and m => Sys2Proof.Machine.execAnd m s
  | .adj imm => Sys2Proof.Machine.execAdj imm s
  | .bit m => Sys2Proof.Machine.execBit m s
  | .rol m => Sys2Proof.Machine.execRol m s
  | .rmb2 zp => Sys2Proof.Machine.execRmb2 zp s
  | .plp => Sys2Proof.Machine.execPlp s
  | .andImm imm => Sys2Proof.Machine.execAndImm imm s
  | .rolA => Sys2Proof.Machine.execRolA s
  | .rot => Sys2Proof.Machine.execRot s
  | .bbr2 zp rel => Sys2Proof.Machine.execBbr2 zp rel s
  | .bmi rel => Sys2Proof.Machine.execBmi rel s
  | .rmb3 zp => Sys2Proof.Machine.execRmb3 zp s
  | .sec => Sys2Proof.Machine.execSec s
  | .decA => Sys2Proof.Machine.execDecA s
  | .nxt => Sys2Proof.Machine.execNxt s
  | .bbr3 zp rel => Sys2Proof.Machine.execBbr3 zp rel s
  | .rti => Sys2Proof.Machine.execRti s
  | .eor m => Sys2Proof.Machine.execEor m s
  | .xma sp => Sys2Proof.Machine.execXma sp s
  | .mov imm => Sys2Proof.Machine.execMov imm s
  | .lsr m => Sys2Proof.Machine.execLsr m s
  | .rmb4 zp => Sys2Proof.Machine.execRmb4 zp s
  | .pha => Sys2Proof.Machine.execPha s
  | .eorImm imm => Sys2Proof.Machine.execEorImm imm s
  | .lsrA => Sys2Proof.Machine.execLsrA s
  | .phi => Sys2Proof.Machine.execPhi s
  | .jmpAbs abs => Sys2Proof.Machine.execJmpAbs abs s
  | .bbr4 zp rel => Sys2Proof.Machine.execBbr4 zp rel s
  | .bvc rel => Sys2Proof.Machine.execBvc rel s
  | .pshImm imm => Sys2Proof.Machine.execPshImm imm s
  | .rmb5 zp => Sys2Proof.Machine.execRmb5 zp s
  | .cli => Sys2Proof.Machine.execCli s
  | .phy => Sys2Proof.Machine.execPhy s
  | .ini => Sys2Proof.Machine.execIni s
  | .phr rel => Sys2Proof.Machine.execPhr rel s
  | .bbr5 zp rel => Sys2Proof.Machine.execBbr5 zp rel s
  | .rts => Sys2Proof.Machine.execRts s
  | .adc m => Sys2Proof.Machine.execAdc m s
  | .add ip => Sys2Proof.Machine.execAdd ip s
  | .stz m => Sys2Proof.Machine.execStz m s
  | .ror m => Sys2Proof.Machine.execRor m s
  | .rmb6 zp => Sys2Proof.Machine.execRmb6 zp s
  | .pla => Sys2Proof.Machine.execPla s
  | .adcImm imm => Sys2Proof.Machine.execAdcImm imm s
  | .rorA => Sys2Proof.Machine.execRorA s
  | .pli => Sys2Proof.Machine.execPli s
  | .jmpInd abs => Sys2Proof.Machine.execJmpInd abs s
  | .unassigned6F => Sys2Proof.Machine.execUnassigned6F s
  | .bbr6 zp rel => Sys2Proof.Machine.execBbr6 zp rel s
  | .bvs rel => Sys2Proof.Machine.execBvs rel s
  | .rmb7 zp => Sys2Proof.Machine.execRmb7 zp s
  | .sei => Sys2Proof.Machine.execSei s
  | .ply => Sys2Proof.Machine.execPly s
  | .ent => Sys2Proof.Machine.execEnt s
  | .jmpIndX abs => Sys2Proof.Machine.execJmpIndX abs s
  | .bbr7 zp rel => Sys2Proof.Machine.execBbr7 zp rel s
  | .bra rel => Sys2Proof.Machine.execBra rel s
  | .sta m => Sys2Proof.Machine.execSta m s
  | .unassigned82 => Sys2Proof.Machine.execUnassigned82 s
  | .sty m => Sys2Proof.Machine.execSty m s
  | .stx m => Sys2Proof.Machine.execStx m s
  | .smb0 zp => Sys2Proof.Machine.execSmb0 zp s
  | .dey => Sys2Proof.Machine.execDey s
  | .bitImm imm => Sys2Proof.Machine.execBitImm imm s
  | .txa => Sys2Proof.Machine.execTxa s
  | .osx => Sys2Proof.Machine.execOsx s
  | .unassigned8F => Sys2Proof.Machine.execUnassigned8F s
  | .bbs0 zp rel => Sys2Proof.Machine.execBbs0 zp rel s
  | .bcc rel => Sys2Proof.Machine.execBcc rel s
  | .smb1 zp => Sys2Proof.Machine.execSmb1 zp s
  | .tya => Sys2Proof.Machine.execTya s
  | .txs => Sys2Proof.Machine.execTxs s
  | .ind => Sys2Proof.Machine.execInd s
  | .bbs1 zp rel => Sys2Proof.Machine.execBbs1 zp rel s
  | .ldyImm imm => Sys2Proof.Machine.execLdyImm imm s
  | .lda m => Sys2Proof.Machine.execLda m s
  | .ldxImm imm => Sys2Proof.Machine.execLdxImm imm s
  | .ldy m => Sys2Proof.Machine.execLdy m s
  | .ldx m => Sys2Proof.Machine.execLdx m s
  | .smb2 zp => Sys2Proof.Machine.execSmb2 zp s
  | .tay => Sys2Proof.Machine.execTay s
  | .ldaImm imm => Sys2Proof.Machine.execLdaImm imm s
  | .tax => Sys2Proof.Machine.execTax s
  | .siz => Sys2Proof.Machine.execSiz s
  | .unassignedAF => Sys2Proof.Machine.execUnassignedAF s
  | .bbs2 zp rel => Sys2Proof.Machine.execBbs2 zp rel s
  | .bcs rel => Sys2Proof.Machine.execBcs rel s
  | .smb3 zp => Sys2Proof.Machine.execSmb3 zp s
  | .clv => Sys2Proof.Machine.execClv s
  | .tsx => Sys2Proof.Machine.execTsx s
  | .isz => Sys2Proof.Machine.execIsz s
  | .bbs3 zp rel => Sys2Proof.Machine.execBbs3 zp rel s
  | .cpyImm imm => Sys2Proof.Machine.execCpyImm imm s
  | .cmp m => Sys2Proof.Machine.execCmp m s
  | .cpy m => Sys2Proof.Machine.execCpy m s
  | .dec m => Sys2Proof.Machine.execDec m s
  | .smb4 zp => Sys2Proof.Machine.execSmb4 zp s
  | .iny => Sys2Proof.Machine.execIny s
  | .cmpImm imm => Sys2Proof.Machine.execCmpImm imm s
  | .dex => Sys2Proof.Machine.execDex s
  | .wai => Sys2Proof.Machine.execWai s
  | .bbs4 zp rel => Sys2Proof.Machine.execBbs4 zp rel s
  | .bne rel => Sys2Proof.Machine.execBne rel s
  | .psh m => Sys2Proof.Machine.execPsh m s
  | .smb5 zp => Sys2Proof.Machine.execSmb5 zp s
  | .cld => Sys2Proof.Machine.execCld s
  | .phx => Sys2Proof.Machine.execPhx s
  | .stp => Sys2Proof.Machine.execStp s
  | .bbs5 zp rel => Sys2Proof.Machine.execBbs5 zp rel s
  | .cpxImm imm => Sys2Proof.Machine.execCpxImm imm s
  | .sbc m => Sys2Proof.Machine.execSbc m s
  | .cpx m => Sys2Proof.Machine.execCpx m s
  | .inc m => Sys2Proof.Machine.execInc m s
  | .smb6 zp => Sys2Proof.Machine.execSmb6 zp s
  | .inx => Sys2Proof.Machine.execInx s
  | .sbcImm imm => Sys2Proof.Machine.execSbcImm imm s
  | .nop => Sys2Proof.Machine.execNop s
  | .oax => Sys2Proof.Machine.execOax s
  | .sub ip => Sys2Proof.Machine.execSub ip s
  | .bbs6 zp rel => Sys2Proof.Machine.execBbs6 zp rel s
  | .beq rel => Sys2Proof.Machine.execBeq rel s
  | .pul m => Sys2Proof.Machine.execPul m s
  | .smb7 zp => Sys2Proof.Machine.execSmb7 zp s
  | .sed => Sys2Proof.Machine.execSed s
  | .plx => Sys2Proof.Machine.execPlx s
  | .oay => Sys2Proof.Machine.execOay s
  | .bbs7 zp rel => Sys2Proof.Machine.execBbs7 zp rel s
  | .tai => Sys2Proof.Machine.execTai s
  | .tia => Sys2Proof.Machine.execTia s
  | .xai => Sys2Proof.Machine.execXai s
  | .bsw => Sys2Proof.Machine.execBsw s
  | .rev => Sys2Proof.Machine.execRev s
  | .nxtItc => Sys2Proof.Machine.execNxtItc s
  | .entItc => Sys2Proof.Machine.execEntItc s
  | .phw => Sys2Proof.Machine.execPhw s
  | .inw => Sys2Proof.Machine.execInw s
  | .plw => Sys2Proof.Machine.execPlw s
  | .asr => Sys2Proof.Machine.execAsr s
  | .asrW => Sys2Proof.Machine.execAsrW s
  | .aslAV => Sys2Proof.Machine.execAslAV s
  | .rolAV => Sys2Proof.Machine.execRolAV s
  | .incAC => Sys2Proof.Machine.execIncAC s
  | .decAC => Sys2Proof.Machine.execDecAC s
  | .jrl rel => Sys2Proof.Machine.execJrl rel s
  | .jmi rel => Sys2Proof.Machine.execJmi rel s
  | .jpl rel => Sys2Proof.Machine.execJpl rel s
  | .jvs rel => Sys2Proof.Machine.execJvs rel s
  | .jvc rel => Sys2Proof.Machine.execJvc rel s
  | .jeq rel => Sys2Proof.Machine.execJeq rel s
  | .jne rel => Sys2Proof.Machine.execJne rel s
  | .jcs rel => Sys2Proof.Machine.execJcs rel s
  | .jcc rel => Sys2Proof.Machine.execJcc rel s
  | .ble rel => Sys2Proof.Machine.execBle rel s
  | .jle rel => Sys2Proof.Machine.execJle rel s
  | .bgt rel => Sys2Proof.Machine.execBgt rel s
  | .jgt rel => Sys2Proof.Machine.execJgt rel s
  | .blt rel => Sys2Proof.Machine.execBlt rel s
  | .jlt rel => Sys2Proof.Machine.execJlt rel s
  | .bge rel => Sys2Proof.Machine.execBge rel s
  | .jge rel => Sys2Proof.Machine.execJge rel s
  | .bhs rel => Sys2Proof.Machine.execBhs rel s
  | .jhs rel => Sys2Proof.Machine.execJhs rel s
  | .blo rel => Sys2Proof.Machine.execBlo rel s
  | .jlo rel => Sys2Proof.Machine.execJlo rel s
  | .bhi rel => Sys2Proof.Machine.execBhi rel s
  | .jhi rel => Sys2Proof.Machine.execJhi rel s
  | .bls rel => Sys2Proof.Machine.execBls rel s
  | .jls rel => Sys2Proof.Machine.execJls rel s
  | .ldsImm imm => Sys2Proof.Machine.execLdsImm imm s
  | .lds m => Sys2Proof.Machine.execLds m s
  | .sts m => Sys2Proof.Machine.execSts m s
  | .cpsImm imm => Sys2Proof.Machine.execCpsImm imm s
  | .cps m => Sys2Proof.Machine.execCps m s
  | .tas => Sys2Proof.Machine.execTas s
  | .tsa => Sys2Proof.Machine.execTsa s
  | .phs => Sys2Proof.Machine.execPhs s
  | .pls => Sys2Proof.Machine.execPls s
  | .ins => Sys2Proof.Machine.execIns s
  | .des => Sys2Proof.Machine.execDes s

end Sys2Proof.Machine
end

