-- ==== Sys2Proof/Machine/Events.lean ====
section
/-!
DEFINITION. What happens around an instruction (60_exceptions.md): the inputs sampled, the fetch, the set-overflow
request, interrupts, and the waiting and stopped states.
-/

namespace Sys2Proof.Machine

/-! ### Fetch -/

/-- The opcode byte at the pc (R29). -/
def State.opcode (s : State) : Byte := s.readByte s.pc

/-- The instruction at the pc (R71, R102), under the prefix flags in force. -/
def State.fetch (s : State) : Instr :=
  decodeAt s.cfg.variant s.pre s.opcode (s.readByte (s.pc + 1)) (s.readByte (s.pc + 2))

/-! ### Inputs -/

/-- What the environment asserts at this step (R40). -/
def State.sample (s : State) : Inputs := s.inputs.headD .idle

/-- The sample is taken, and a set-overflow request is latched until an instruction completes (R40, R565). -/
def State.sampled (s : State) : State :=
  { s with inputs := s.inputs.tail, soLatch := s.soLatch || s.sample.so }

/-- The vector of an interrupt: what the handler presents, or the platform's for the kind (R541). -/
def State.vectorOf (s : State) (r : IntRequest) : Word :=
  match r.vector with
  | some v => v
  | none => match r.kind with
    | .maskable => s.cfg.vecIrq
    | .nonMaskable => s.cfg.vecNmi

/-- `INT` is asserted (R532): a request is there, and it is not a maskable one while P.I is set. -/
def State.interrupt? (s : State) (inp : Inputs) : Option IntRequest :=
  match inp.int with
  | none => none
  | some r => match r.kind with
    | .nonMaskable => some r
    | .maskable => if s.p.i then none else some r

/-- `xIRQ` is asserted (R532): some maskable request is there, masked or not. -/
def anyMaskable (inp : Inputs) : Bool :=
  inp.xirq || (match inp.int with
    | none => false
    | some r => decide (r.kind = .maskable))

/-! ### The boundary after an instruction -/

/-- The opcodes after which no interrupt is taken, in both variants (R536): the prefixes, the branches, `jmp`, `jsr`,
`sei` and `cli`. -/
def uninterruptible : List Byte :=
  [0x8B, 0x9B, 0xAB, 0xBB, 0xEB, 0xFB,
   0x10, 0x30, 0x50, 0x70, 0x80, 0x90, 0xB0, 0xD0, 0xF0,
   0x4C, 0x6C, 0x7C, 0x20, 0x78, 0x58]

/-- The opcode is an interrupt point (R536). Column F of the W65C02S variant is `bbrN` and `bbsN`. -/
def interruptPoint (v : Variant) (op : Byte) : Bool :=
  !uninterruptible.contains op &&
    match v with
    | .hll => true
    | .w65c02s => decide (op.toNat % 16 ≠ 15)

/-- A latched set-overflow request sets V and is acknowledged (R565). -/
def State.applySo (s : State) : State :=
  if s.soLatch then { s.setP { s.p with v := true } with soLatch := false } else s

/-- An interrupt is taken (R545): the return value is one less than the pc at which execution would go on. -/
def State.takeInterrupt (s : State) (r : IntRequest) : State :=
  { s.enter (s.pc - 1) false (s.vectorOf r) with run := .running }

/-- The waiting state (R320, R568): an interrupt is taken; a masked maskable request ends the wait without a handler;
else nothing happens. -/
def State.wait (s : State) (inp : Inputs) : State :=
  match s.interrupt? inp with
  | some r => s.applySo.takeInterrupt r
  | none => if anyMaskable inp && s.p.i then { s.applySo with run := .running } else s

/-- The boundary after an instruction with this opcode (R533): first a set-overflow request, then, at an interrupt
point, an interrupt. `wai` looks at the events at once (R320), and `stp` takes none (R321). -/
def State.boundary (s : State) (op : Byte) (inp : Inputs) : State :=
  let t := s.applySo
  match t.run with
  | .stopped => t
  | .waiting => t.wait inp
  | .running =>
    if interruptPoint t.cfg.variant op then
      match t.interrupt? inp with
      | some r => t.takeInterrupt r
      | none => t
    else t

end Sys2Proof.Machine
end

