-- ==== Sys2Proof/Machine/Step.lean ====
section
/-!
DEFINITION. One step of the machine: it samples the environment, and then is reset, or runs one instruction with the
boundary after it, or waits, or stays stopped.
-/

namespace Sys2Proof.Machine

/-- One step (R533). Reset wins at any time (R580). A prefix instruction is a step of its own (R190). -/
def step (s : State) : Host.Outcome State Fault Refusal :=
  let inp := s.sample
  let t := s.sampled
  if inp.rst then .next t.resetSequence
  else
    match t.run with
    | .stopped => .next t
    | .waiting => .next (t.wait inp)
    | .running =>
      match exec t.fetch t with
      | .next u => .next (u.boundary t.opcode inp)
      | .fault r => .fault r
      | .refused r => .refused r

/-- The state with the instruction whose bits are `w` stored at the pc: byte k is bits `8k+7 .. 8k`, and the bits from
`nbits` up are 0, over the three bytes of the longest instruction. -/
def State.withFetchWord (s : State) (nbits w : Nat) : State :=
  let n := w % 2 ^ nbits
  ((s.writeByte s.pc (BitVec.ofNat 8 n)).writeByte (s.pc + 1) (BitVec.ofNat 8 (n / 256))).writeByte (s.pc + 2)
    (BitVec.ofNat 8 (n / 65536))

end Sys2Proof.Machine
end

