-- ==== Sys2Proof/Machine/Forms.lean ====
section
/-!
DEFINITION. Instructions by family, with what the spec's rules name for each: lists that statements about a whole family
range over, and results computed at 8 and at 16 bits as the rules write them.
-/

namespace Sys2Proof.Machine

/-! ### Operands -/

/-- An operand that an instruction reads: immediate, or in memory. -/
inductive Source where
  | imm (i : Imm)
  | mem (m : Mode)
  deriving DecidableEq, Repr

/-- The operand byte has a meaning (R170). -/
def sourceDefined : Source → Bool
  | .imm _ => true
  | .mem m => modeDefined m

/-- The operand's value: the immediate, or what memory holds at the operation width (R132, R135). -/
def sourceValue (s : State) : Source → Word
  | .imm i => i.value
  | .mem m => s.readOp s.wide (s.loc m)

/-- How many bytes the opcode and the operand are. -/
def sourceSize : Source → Nat
  | .imm i => 1 + i.size
  | .mem m => modeSize m

/-- IP after the operand is read (R170, R171). -/
def sourceIp (s : State) : Source → Word
  | .imm _ => s.ip
  | .mem m => (s.past m).ip

/-! ### Results at both widths -/

/-- A result of 8 bits, and of 16 bits when `wide` (R26). -/
structure Result where
  wide : Bool
  r8 : Byte
  r16 : Word
  deriving DecidableEq, Repr

/-- A value as a result: its low byte, or all of it. -/
def Result.of (wide : Bool) (v : Word) : Result := { wide := wide, r8 := loByte v, r16 := v }

/-- What a register holds after the result is written (R25, R26). -/
def Result.word (x : Result) (r : Reg) : Word :=
  if x.wide then x.r16 else joinBytes (if r = .sp then 0x01 else 0x00) x.r8

/-- N of the result (R39). -/
def Result.n (x : Result) : Bool := if x.wide then x.r16.msb else x.r8.msb

/-- Z of the result (R33). -/
def Result.z (x : Result) : Bool := if x.wide then decide (x.r16 = 0) else decide (x.r8 = 0)

/-- Logic bit by bit, at any width (R381). -/
def logicBits {w : Nat} (op : LogicOp) (l r : BitVec w) : BitVec w :=
  match op with
  | .ora => l ||| r
  | .and => l &&& r
  | .eor => l ^^^ r

/-- A shift at any width, with the bit shifted out (R425 to R428, R433). -/
def shiftBits {w : Nat} (k : ShiftKind) (c : Bool) (v : BitVec w) : BitVec w × Bool :=
  match k with
  | .asl => (v <<< 1, v.msb)
  | .rol => ((v <<< 1) ||| (BitVec.ofBool c).setWidth w, v.msb)
  | .lsr => (v >>> 1, v.getLsbD 0)
  | .ror => ((v >>> 1) ||| ((BitVec.ofBool c).setWidth w <<< (w - 1)), v.getLsbD 0)
  | .asr => (v.sshiftRight 1, v.getLsbD 0)

/-- A sum or difference at some width. -/
structure Arith (w : Nat) where
  value : BitVec w
  carry : Bool
  overflow : Bool
  deriving DecidableEq, Repr

/-- The integer does not fit in w bits, two's complement. -/
def overflows (w : Nat) (e : Int) : Bool := decide (e < -(2 ^ (w - 1) : Int)) || decide ((2 ^ (w - 1) : Int) ≤ e)

/-- `l + r + c`, with carry out and signed overflow (R440, R441). -/
def sumBits {w : Nat} (l r : BitVec w) (c : Bool) : Arith w where
  value := l + r + (BitVec.ofBool c).setWidth w
  carry := decide (2 ^ w ≤ l.toNat + r.toNat + c.toNat)
  overflow := overflows w (l.toInt + r.toInt + (c.toNat : Int))

/-- `l - r - (1 - c)`, where carry means no borrow, with signed overflow (R440, R441). -/
def diffBits {w : Nat} (l r : BitVec w) (c : Bool) : Arith w where
  value := l - r - (BitVec.ofBool (!c)).setWidth w
  carry := decide (r.toNat + (!c).toNat ≤ l.toNat)
  overflow := overflows w (l.toInt - r.toInt - ((!c).toNat : Int))

/-- A sum at the operation width: the result, carry and overflow. -/
structure ArithResult where
  result : Result
  carry : Bool
  overflow : Bool
  deriving DecidableEq, Repr

/-- A sum or a difference of two words at the operation width (R440). -/
def arith (wide : Bool) (sub : Bool) (l r : Word) (c : Bool) : ArithResult :=
  let a8 := if sub then diffBits (loByte l) (loByte r) c else sumBits (loByte l) (loByte r) c
  let a16 := if sub then diffBits l r c else sumBits l r c
  { result := { wide := wide, r8 := a8.value, r16 := a16.value }
    carry := if wide then a16.carry else a8.carry
    overflow := if wide then a16.overflow else a8.overflow }

/-! ### Families -/

/-- The prefix instructions (R190). -/
def prefixes : List Instr := [.ind, .siz, .isz, .oax, .oay, .osx]

/-- The loads, with their destination (R330). -/
def loads (s : State) : Source → List (Instr × Reg)
  | .imm i => [(.ldaImm i, s.accReg), (.ldxImm i, s.xReg), (.ldyImm i, s.yReg), (.ldsImm i, .sp)]
  | .mem m => [(.lda m, s.accReg), (.ldx m, s.xReg), (.ldy m, s.yReg), (.lds m, .sp)]

/-- The stores, with the value stored (R331). -/
def stores (s : State) (m : Mode) : List (Instr × Word) :=
  [(.sta m, s.reg s.accReg), (.stx m, s.reg s.xReg), (.sty m, s.reg s.yReg), (.stz m, 0), (.sts m, s.reg .sp)]

/-- The transfers between registers, with destination and source (R351 to R354). -/
def transfers (s : State) : List (Instr × Reg × Reg) :=
  [(.tax, s.xReg, s.accReg), (.txa, s.accReg, s.xReg), (.tay, s.yReg, s.accReg), (.tya, s.accReg, s.yReg)]

/-- Accumulator logic (R384 to R386). -/
def logics : Source → List (Instr × LogicOp)
  | .imm i => [(.oraImm i, .ora), (.andImm i, .and), (.eorImm i, .eor)]
  | .mem m => [(.ora m, .ora), (.and m, .and), (.eor m, .eor)]

/-- `rmbN` and `smbN`, with N and the value the bit gets (R393, R394). -/
def bitChanges (zp : Byte) : List (Instr × Nat × Bool) :=
  [(.rmb0 zp, 0, false), (.rmb1 zp, 1, false), (.rmb2 zp, 2, false), (.rmb3 zp, 3, false),
   (.rmb4 zp, 4, false), (.rmb5 zp, 5, false), (.rmb6 zp, 6, false), (.rmb7 zp, 7, false),
   (.smb0 zp, 0, true), (.smb1 zp, 1, true), (.smb2 zp, 2, true), (.smb3 zp, 3, true),
   (.smb4 zp, 4, true), (.smb5 zp, 5, true), (.smb6 zp, 6, true), (.smb7 zp, 7, true)]

/-- The flag instructions, with P after each (R401 to R407). -/
def flagChanges (p : Psw) : List (Instr × Psw) :=
  [(.clc, { p with c := false }), (.sec, { p with c := true }), (.cli, { p with i := false }),
   (.sei, { p with i := true }), (.clv, { p with v := false }), (.cld, { p with d := false }),
   (.sed, { p with d := true })]

/-- The shifts of the accumulator (R423, R433). -/
def shiftsAcc : List (Instr × ShiftKind) :=
  [(.aslA, .asl), (.rolA, .rol), (.lsrA, .lsr), (.rorA, .ror), (.asr, .asr), (.asrW, .asr)]

/-- The shifts of memory (R423). -/
def shiftsMem (m : Mode) : List (Instr × ShiftKind) :=
  [(.asl m, .asl), (.rol m, .rol), (.lsr m, .lsr), (.ror m, .ror)]

/-- `adc`, and `sbc` with `true` (R445, R446). -/
def addSubs : Source → List (Instr × Bool)
  | .imm i => [(.adcImm i, false), (.sbcImm i, true)]
  | .mem m => [(.adc m, false), (.sbc m, true)]

/-- The comparisons, with the register compared (R447 to R449). -/
def compares (s : State) : Source → List (Instr × Reg)
  | .imm i => [(.cmpImm i, s.accReg), (.cpxImm i, s.xReg), (.cpyImm i, s.yReg), (.cpsImm i, .sp)]
  | .mem m => [(.cmp m, s.accReg), (.cpx m, s.xReg), (.cpy m, s.yReg), (.cps m, .sp)]

/-- Increments and decrements of a register, with the constant added (R452 to R457). -/
def stepsReg (s : State) : List (Instr × Reg × Word) :=
  [(.incA, s.accReg, 1), (.decA, s.accReg, -1), (.inx, s.xReg, 1), (.dex, s.xReg, -1),
   (.iny, s.yReg, 1), (.dey, s.yReg, -1), (.ins, .sp, 1), (.des, .sp, -1)]

/-- Increments and decrements of memory, with the constant added (R450, R451). -/
def stepsMem (m : Mode) : List (Instr × Word) := [(.inc m, 1), (.dec m, -1)]

/-- The branches with an 8-bit displacement, with the condition on the flags (R481 to R491, R490). -/
def shortBranches (p : Psw) (rel : Byte) : List (Instr × Bool) :=
  [(.bpl rel, !p.n), (.bmi rel, p.n), (.bvc rel, !p.v), (.bvs rel, p.v), (.bra rel, true), (.bcc rel, !p.c),
   (.bcs rel, p.c), (.bne rel, !p.z), (.beq rel, p.z),
   (.ble rel, p.z || (p.n != p.v)), (.bgt rel, !p.z && (p.n == p.v)), (.blt rel, p.n != p.v),
   (.bge rel, p.n == p.v), (.bhs rel, p.c), (.blo rel, !p.c), (.bhi rel, p.c && !p.z), (.bls rel, !p.c || p.z)]

/-- The branches with a 16-bit displacement, with the condition on the flags (R488, R490). -/
def longBranches (p : Psw) (rel : Word) : List (Instr × Bool) :=
  [(.jpl rel, !p.n), (.jmi rel, p.n), (.jvc rel, !p.v), (.jvs rel, p.v), (.jrl rel, true), (.jcc rel, !p.c),
   (.jcs rel, p.c), (.jne rel, !p.z), (.jeq rel, p.z),
   (.jle rel, p.z || (p.n != p.v)), (.jgt rel, !p.z && (p.n == p.v)), (.jlt rel, p.n != p.v),
   (.jge rel, p.n == p.v), (.jhs rel, p.c), (.jlo rel, !p.c), (.jhi rel, p.c && !p.z), (.jls rel, !p.c || p.z)]

/-- `bbrN` and `bbsN`, with N and the value that is tested for (R495, R496). -/
def bitBranches (zp rel : Byte) : List (Instr × Nat × Bool) :=
  [(.bbr0 zp rel, 0, false), (.bbr1 zp rel, 1, false), (.bbr2 zp rel, 2, false), (.bbr3 zp rel, 3, false),
   (.bbr4 zp rel, 4, false), (.bbr5 zp rel, 5, false), (.bbr6 zp rel, 6, false), (.bbr7 zp rel, 7, false),
   (.bbs0 zp rel, 0, true), (.bbs1 zp rel, 1, true), (.bbs2 zp rel, 2, true), (.bbs3 zp rel, 3, true),
   (.bbs4 zp rel, 4, true), (.bbs5 zp rel, 5, true), (.bbs6 zp rel, 6, true), (.bbs7 zp rel, 7, true)]

/-- The pushes of a register (R281 to R283, R200). -/
def pushes (s : State) : List (Instr × Reg) := [(.pha, s.accReg), (.phx, s.xReg), (.phy, s.yReg), (.phs, .sp)]

/-- The pulls into a register (R285 to R287, R200). -/
def pulls (s : State) : List (Instr × Reg) := [(.pla, s.accReg), (.plx, s.xReg), (.ply, s.yReg), (.pls, .sp)]

/-- The unassigned opcodes (R112). -/
def unassigneds : List Instr := [.unassigned82, .unassigned6F, .unassigned8F, .unassignedAF]

end Sys2Proof.Machine
end

