-- ==== Sys2Proof/Safety.lean ====
section
/-!
DEFINITION. The terms that statements use: the invariant of every state, what an instruction may change, and which
instructions stop.
-/

namespace Sys2Proof.Machine

/-! ### The invariant -/

/-- OAX excludes OAY and OSX (R199). -/
def exclusive (f : PrefixFlags) : Bool := !(f.oax && (f.oay || f.osx))

/-- What holds of every state: memory is in canonical form, the register overrides are exclusive (R199), and no prefix
flag is set while the core waits or is stopped (R41, R191). -/
def State.Inv (s : State) : Prop :=
  s.mem.wf = true ∧ exclusive s.pre = true ∧ (s.run ≠ .running → s.pre = .clear)

/-! ### What changes -/

/-- The pieces of the state but for memory. -/
inductive Field where
  | aTos | aNos | aBos
  | xTos | xNos | xBos
  | yTos | yNos | yBos
  | sk | su | ip | w | pc
  | n | v | m | d | i | z | c
  | pre | run | soLatch | inputs | free | cfg
  deriving DecidableEq, Repr

/-- Two states agree in a piece. -/
def Field.same (s t : State) : Field → Prop
  | .aTos => t.a.tos = s.a.tos
  | .aNos => t.a.nos = s.a.nos
  | .aBos => t.a.bos = s.a.bos
  | .xTos => t.x.tos = s.x.tos
  | .xNos => t.x.nos = s.x.nos
  | .xBos => t.x.bos = s.x.bos
  | .yTos => t.y.tos = s.y.tos
  | .yNos => t.y.nos = s.y.nos
  | .yBos => t.y.bos = s.y.bos
  | .sk => t.sk = s.sk
  | .su => t.su = s.su
  | .ip => t.ip = s.ip
  | .w => t.w = s.w
  | .pc => t.pc = s.pc
  | .n => t.p.n = s.p.n
  | .v => t.p.v = s.p.v
  | .m => t.p.m = s.p.m
  | .d => t.p.d = s.p.d
  | .i => t.p.i = s.p.i
  | .z => t.p.z = s.p.z
  | .c => t.p.c = s.p.c
  | .pre => t.pre = s.pre
  | .run => t.run = s.run
  | .soLatch => t.soLatch = s.soLatch
  | .inputs => t.inputs = s.inputs
  | .free => t.free = s.free
  | .cfg => t.cfg = s.cfg

/-- Every piece but the listed ones is as before. -/
def OnlyChanges (fs : List Field) (s t : State) : Prop := ∀ f, f ∉ fs → f.same s t

/-- Every byte of memory reads as before. -/
def SameMemory (s t : State) : Prop := ∀ a, t.readByte a = s.readByte a

/-- Every byte of memory but those at the listed addresses reads as before. -/
def SameMemoryBut (addresses : List Word) (s t : State) : Prop :=
  ∀ a, a ∉ addresses → t.readByte a = s.readByte a

/-- The addresses of an operand of the operation width (R132). -/
def operandBytes (wide : Bool) (l : Loc) : List Word := if wide then [l.first, l.second] else [l.first]

/-- The piece that a register role is, under the mode of `s` (R24, R175). -/
def Reg.field (s : State) : Reg → Field
  | .a => .aTos
  | .x => .xTos
  | .y => .yTos
  | .sp => if s.p.m then .sk else .su

/-- The piece that a stack pointer is (R84). -/
def StackPtr.field : StackPtr → Field
  | .kernel => .sk
  | .user => .su
  | .aux => .xTos

/-- The instruction is behind the pc and its prefix flags are gone (R29, R191). -/
def Completed (s t : State) (size : Nat) : Prop := t.pc = s.pc + BitVec.ofNat 16 size ∧ t.pre = .clear

/-- N and Z after a result is written to a register: those of the result; for S, unspecified, and two free values are
drawn (R330, U18). -/
def ResultFlags (s t : State) (r : Reg) (x : Result) : Prop :=
  if r = .sp then
    t.p.n = Config.freeBit s.free ∧ t.p.z = Config.freeBit (s.free + 1) ∧ t.free = s.free + 2
  else t.p.n = x.n ∧ t.p.z = x.z ∧ t.free = s.free

/-- A result is written to a register, with N and Z (R330). -/
def Loaded (s t : State) (r : Reg) (x : Result) : Prop := t.reg r = x.word r ∧ ResultFlags s t r x

/-- A value is written to an operand's place at the operation width, and no other byte of memory changes (R132). -/
def WroteOp (s t : State) (wide : Bool) (l : Loc) (v : Word) : Prop :=
  t.readByte l.first = loByte v ∧ (wide = true → t.readByte l.second = hiByte v) ∧
    SameMemoryBut (operandBytes wide l) s t

/-- A byte is pushed, and no other byte of memory changes (R80). -/
def Pushed8 (s t : State) (k : StackPtr) (b : Byte) : Prop :=
  t.sp k = k.down (s.sp k) ∧ t.readByte (s.sp k) = b ∧ SameMemoryBut [s.sp k] s t

/-- A word is pushed, the high byte first, and no other byte of memory changes (R82). -/
def Pushed16 (s t : State) (k : StackPtr) (v : Word) : Prop :=
  t.sp k = k.down (k.down (s.sp k)) ∧ t.readByte (s.sp k) = hiByte v ∧
    t.readByte (k.down (s.sp k)) = loByte v ∧ SameMemoryBut [s.sp k, k.down (s.sp k)] s t

/-- The word that a 16-bit pull takes, the low byte first (R83). -/
def pulledWord (s : State) (k : StackPtr) : Word :=
  joinBytes (s.readByte (k.up (k.up (s.sp k)))) (s.readByte (k.up (s.sp k)))

/-- The byte is P as it is pushed, with `b` in bit 4 (R31, R36). -/
def IsPByte (p : Psw) (b : Bool) (v : Byte) : Prop :=
  v.getLsbD 7 = p.n ∧ v.getLsbD 6 = p.v ∧ v.getLsbD 5 = p.m ∧ v.getLsbD 4 = b ∧ v.getLsbD 3 = p.d ∧
    v.getLsbD 2 = p.i ∧ v.getLsbD 1 = p.z ∧ v.getLsbD 0 = p.c

/-- A trap or an interrupt is taken (R545): the return value and P lie on S_K, P and the pc are the handler's, and no
other byte of memory changes. -/
def Entered (s t : State) (ret : Word) (bit4 : Bool) (vector : Word) : Prop :=
  let a1 := s.sk
  let a2 := StackPtr.kernel.down a1
  let a3 := StackPtr.kernel.down a2
  t.sk = StackPtr.kernel.down a3 ∧ t.readByte a1 = hiByte ret ∧ t.readByte a2 = loByte ret ∧
    IsPByte s.p bit4 (t.readByte a3) ∧ SameMemoryBut [a1, a2, a3] s t ∧
    t.p = { s.p with m := true, i := true, d := false } ∧ t.pre = .clear ∧ t.pc = t.pointerAt vector

/-! ### Which instructions stop -/

/-- The instruction has an operand byte or a prefix that the spec gives no meaning (U3, U4, U10, U11, U12). -/
def stops (s : State) : Instr → Bool
  | .cop _ | .mov _ => true
  | .tai | .tia | .xai | .bsw | .rev => s.pre.oax || s.pre.oay
  | .txs | .tsx => s.pre.osx
  | .add b | .sub b => decide (b ≠ 0)
  | i => match i.mode? with
    | some (m, _) => !modeDefined m
    | none => false

end Sys2Proof.Machine
end

