-- ==== Sys2Proof/Certificates/Slice0/Obligations.lean ====
section
/-!
DEFINITION. The statements for the provers. A statement about an instruction says when it completes, what it writes, and
what it leaves as it was; "log n" is notes/assumptions/n.md.
-/

open Sys2Proof Sys2Proof.Machine

/-! ### Encoding -/

/-- Decode and encode agree (R101 to R110): the bytes of every well-formed instruction, with every operand, decode to
it, in both variants and under any prefix flags. -/
def Obligations.EncodeThenDecode : Prop :=
  ∀ (v : Variant) (f : PrefixFlags) (i : Instr) (rest : List Byte), i.wellFormed v f = true →
    decode v f (encode i ++ rest) = .ok (i, rest)

/-- The other direction (R100, R113): what the decoder reads is well-formed, and its encoding is the bytes read. No two
encodings have one meaning. -/
def Obligations.DecodeThenEncode : Prop :=
  ∀ (v : Variant) (f : PrefixFlags) (bytes rest : List Byte) (i : Instr), decode v f bytes = .ok (i, rest) →
    i.wellFormed v f = true ∧ encode i ++ rest = bytes

/-- Prefix bytes before an instruction (R102, R193 to R199): every combination of prefix flags that the exclusions allow
has bytes that leave it, and the instruction after them is read under it. -/
def Obligations.PrefixesThenInstruction : Prop :=
  ∀ (v : Variant) (f : PrefixFlags) (i : Instr) (rest : List Byte), exclusive f = true → i.wellFormed v f = true →
    i ∉ prefixes →
    decodePrefixed v .clear (f.bytes ++ (encode i ++ rest)) = .ok (f, i, rest)

/-- A few encodings that the spec writes out (R105 to R110). -/
def Obligations.SpecWords : Prop :=
  decode .hll .clear [0xA9, 0x12] = .ok (.ldaImm (.b8 0x12), []) ∧
  decodePrefixed .hll .clear [0xAB, 0xA9, 0x34, 0x12] =
    .ok ({ PrefixFlags.clear with siz := true }, .ldaImm (.b16 0x1234), []) ∧
  decode .hll .clear [0x8D, 0x00, 0x20] = .ok (.sta (.abs 0x2000), []) ∧
  decode .w65c02s .clear [0xFF, 0x10, 0xFD] = .ok (.bbs7 0x10 0xFD, []) ∧
  decodePrefixed .hll .clear [0xBB, 0x0B] = .ok ({ PrefixFlags.clear with ind := true, siz := true }, .xai, []) ∧
  decode .hll .clear [0x20, 0x34, 0x12] = .ok (.jsr 0x1234, [])

/-! ### The step -/

/-- A step runs the decoded instruction (R29, R71, R533): when the core runs, no reset is requested, and the bytes at
the pc decode to `i`, the step is `exec i` on the state with its inputs sampled, and then the boundary after it. -/
def Obligations.StepRunsDecoded : Prop :=
  ∀ (s : State) (i : Instr) (rest : List Byte), s.run = .running → s.sample.rst = false →
    decode s.cfg.variant s.pre [s.readByte s.pc, s.readByte (s.pc + 1), s.readByte (s.pc + 2)] = .ok (i, rest) →
    step s =
      match exec i { s with inputs := s.inputs.tail, soLatch := s.soLatch || s.sample.so } with
      | .next u => .next (u.boundary (s.readByte s.pc) s.sample)
      | .fault r => .fault r
      | .refused r => .refused r

/-- Every step keeps the invariant: memory in canonical form, OAX excludes OAY and OSX (R199), and no prefix flag is set
while the core waits or is stopped (R41, R191). -/
def Obligations.StepKeepsInv : Prop := ∀ s t : State, s.Inv → step s = .next t → t.Inv

/-- The invariant holds at reset (R41, R44, R199). -/
def Obligations.ResetInv : Prop := State.reset.Inv

/-- What reset leaves, of the values R44 names: Kernel mode, I set, D clear, S_K = 0x01FF (the spec's decision D6, log
7), no prefix flag, running, no latched SO request, and the pc at the word at VEC_RST. It holds at power-up whatever
memory holds (R90), and every byte reads as memory holds it; the reset state is power-up with no byte listed (the
model's choice, log 8). -/
def Obligations.ResetValues : Prop :=
  State.reset = State.powerUp [] ∧
    ∀ contents : Memory, contents.wf = true →
      let s := State.powerUp contents
      s.p.m = true ∧ s.p.i = true ∧ s.p.d = false ∧ s.sk = 0x01FF ∧ s.pre = .clear ∧ s.run = .running ∧
        s.soLatch = false ∧ s.pc = s.pointerAt s.cfg.vecRst ∧ s.Inv ∧
        ∀ a : Word, s.readByte a = contents.read a.toNat

/-- No step changes the parameters (R9), and each step takes one record of the inputs (R40; log 11). -/
def Obligations.StepKeepsParameters : Prop :=
  ∀ s t : State, step s = .next t → t.cfg = s.cfg ∧ t.inputs = s.inputs.tail

/-- What changes the mode (R37, R551, R553): Kernel mode is left only by an `rti` that pulls a byte with bit 5 clear;
User mode is left only by reset, by a request that I, as it is at that boundary, does not mask (R532, log 12), or by a
trap. -/
def Obligations.ModeChanges : Prop :=
  ∀ s t : State, step s = .next t →
    (s.p.m = true → t.p.m = false →
      s.run = .running ∧ s.sample.rst = false ∧ s.fetch = .rti ∧ (s.pull8 s.stackPtr).getLsbD 5 = false) ∧
    (s.p.m = false → t.p.m = true →
      s.sample.rst = true ∨
        (∃ r, s.sample.int = some r ∧
          (r.kind = .maskable →
            (s.run = .waiting ∧ s.p.i = false) ∨
              (s.run = .running ∧ ∃ u, exec s.fetch s.sampled = .next u ∧ u.p.i = false))) ∨
        (s.run = .running ∧
          ((∃ b, s.fetch = .brk b) ∨ (s.fetch ∈ unassigneds ∧ s.cfg.unusedOpcode = .invTrap))))

/-- The kernel stack pointer is out of reach of User mode (R24, R555): over a step that begins and ends in User mode,
another value of S_K changes nothing but S_K itself, which stays. Where the step draws free values the two runs draw at
equal counters, and that these are equal is the model's choice (log 10). -/
def Obligations.UserModeCannotTouchKernelStack : Prop :=
  ∀ (s t : State) (k : Word), s.p.m = false → step s = .next t → t.p.m = false →
    step { s with sk := k } = .next { t with sk := k }

/-- The lifetime of the prefix flags (R191): every instruction that is no prefix clears all five when it completes; a
prefix instruction clears no flag but those it excludes (R199). -/
def Obligations.PrefixFlagsEnd : Prop :=
  ∀ (i : Instr) (s t : State), exec i s = .next t →
    (i ∉ prefixes → t.pre = .clear) ∧
    (i ∈ prefixes →
      (s.pre.ind = true → t.pre.ind = true) ∧ (s.pre.siz = true → t.pre.siz = true) ∧
      (s.pre.oax = true → i ∈ [Instr.ind, .siz, .isz, .oax] → t.pre.oax = true) ∧
      (s.pre.oay = true → i ≠ .oax → t.pre.oay = true) ∧ (s.pre.osx = true → i ≠ .oax → t.pre.osx = true))

/-- NOS and BOS (R21): `dup`, `swp` and `rot` alone move the lower elements of the register stacks. -/
def Obligations.BelowTopMoves : Prop :=
  ∀ (i : Instr) (s t : State), i ∉ [Instr.dup, .swp, .rot] → exec i s = .next t →
    t.a.nos = s.a.nos ∧ t.a.bos = s.a.bos ∧ t.x.nos = s.x.nos ∧ t.x.bos = s.x.bos ∧
      t.y.nos = s.y.nos ∧ t.y.bos = s.y.bos

/-- Which instructions complete: every one, in every state, in both modes (R113, R531), but for the forms that `stops`
lists, which are refused: `cop` and `mov` (R310, R312, logs 23 and 24), an `ip,I++` byte other than 0 (R170, log 20), the
extended register-stack instructions under OAX and OAY (R206, log 21), and `txs` and `tsx` under OSX (R355, R356, log
22). That forms run which the spec tells a model to refuse is the model's choice: unassigned opcodes (log 5), OSX on
X-indexed modes and on `bp,B` (logs 15 and 16), an index in page 1 (log 17), sums that leave a locked page (logs 18 and
19), and decimal `add` and `sub` (log 30). -/
def Obligations.CompletesUnlessStopped : Prop :=
  ∀ (i : Instr) (s : State),
    (stops s i = false → ∃ t, exec i s = .next t) ∧ (stops s i = true → ∃ r, exec i s = .refused r)

/-- The stops by name: `cop` (R310: TBD, U3), `mov` (R312, U4), and an `ip,I++` operand byte other than 0 (R170, U10) in
every instruction of that mode. -/
def Obligations.NamedStops : Prop :=
  ∀ (s : State) (b : Byte),
    exec (.cop b) s = .refused .copUnspecified ∧ exec (.mov b) s = .refused .movUnspecified ∧
    (b ≠ 0 →
      (∀ (i : Instr) rows, i.mode? = some (.ip b, rows) → exec i s = .refused .ipOperandNonzero) ∧
      exec (.add b) s = .refused .ipOperandNonzero ∧ exec (.sub b) s = .refused .ipOperandNonzero)

/-! ### Addresses -/

/-- Which register each role is (R24, R84, R175, R176): the accumulator, the register that X and Y instructions name, the
indexes, the base of `bp,B`, and the pointers of the stack and of the FORTH VM instructions. What OSX does to the X
index and to the base is by the parameters of conflicts C10 and C11 (log 15, log 16). -/
def Obligations.RegisterRoles : Prop :=
  ∀ s : State,
    let sys := if s.p.m then s.sk else s.su
    s.reg s.accReg = (if s.pre.oax then s.x.tos else if s.pre.oay then s.y.tos else s.a.tos) ∧
    s.reg s.xReg = (if s.pre.oax then s.a.tos else if s.pre.osx then sys else s.x.tos) ∧
    s.reg s.yReg = (if s.pre.oay then s.a.tos else s.y.tos) ∧
    s.xIndex = (if s.pre.oax then s.a.tos
      else if s.pre.osx ∧ s.cfg.osxIndex = .substitute then sys + (if s.cfg.osxIndexBias = .one then 1 else 0)
      else s.x.tos) ∧
    s.yIndex = (if s.pre.oay then s.a.tos else s.y.tos) ∧
    s.bpBase = (if s.pre.oax = false ∧ s.pre.osx ∧ s.cfg.osxBase = .stackRelative then sys + 1
      else (if s.pre.oax then s.a.tos else s.x.tos) + (if s.cfg.bpBias = .one then 1 else 0)) ∧
    s.sp s.stackPtr = (if s.pre.osx then s.x.tos else sys) ∧
    s.sp s.vmPtr = (if s.pre.osx then sys else s.x.tos)

/-- Operand transfer at any place (R11, R70, R132): a pair of bytes has its low byte at the first address and its high
byte at the second, whether it is an operand of 16 bits, a pointer or a vector; an operand of 8 bits is one byte,
zero-extended; a write stores the same bytes. The `zp` operand (R136 to R138): without IND at the address in page 0, its
second byte modulo 256; with IND where the pointer there points, the pointer's second byte modulo 256, and the
operand's not. -/
def Obligations.ZeroPageOperand : Prop :=
  (∀ hi lo : Byte, (joinBytes hi lo).toNat = hi.toNat * 256 + lo.toNat) ∧
  (∀ v : Word, (loByte v).toNat = v.toNat % 256 ∧ (hiByte v).toNat = v.toNat / 256) ∧
  (∀ (s : State) (l : Loc),
    s.readPair l = joinBytes (s.readByte l.second) (s.readByte l.first) ∧
    s.readOp true l = joinBytes (s.readByte l.second) (s.readByte l.first) ∧
    s.readOp false l = joinBytes 0x00 (s.readByte l.first) ∧
    (s.mem.wf = true → ∀ v,
      WroteOp s (s.writeOp false l v) false l v ∧ OnlyChanges [] s (s.writeOp false l v) ∧
      OnlyChanges [] s (s.writeOp true l v) ∧ (l.first ≠ l.second → WroteOp s (s.writeOp true l v) true l v))) ∧
  (∀ (s : State) (a : Word), s.pointerAt a = joinBytes (s.readByte (a + 1)) (s.readByte a)) ∧
  (∀ (s : State) (b : Byte),
    s.zpPointer b = joinBytes (s.readByte (joinBytes 0x00 (b + 1))) (s.readByte (joinBytes 0x00 b))) ∧
  ∀ (s : State) (b : Byte),
    (s.pre.ind = false →
      (s.loc (.zp b)).first.toNat = b.toNat ∧ (s.loc (.zp b)).second.toNat = (b.toNat + 1) % 256) ∧
    (s.pre.ind = true →
      (s.loc (.zp b)).first = joinBytes (s.readByte (joinBytes 0x00 (b + 1))) (s.readByte (joinBytes 0x00 b)) ∧
      (s.loc (.zp b)).second.toNat = ((s.loc (.zp b)).first.toNat + 1) % 65536) ∧
    (s.pre.siz = false →
      s.readOp s.wide (s.loc (.zp b)) = joinBytes 0x00 (s.readByte (s.loc (.zp b)).first) ∧
      (s.mem.wf = true → ∀ v,
        (s.writeOp s.wide (s.loc (.zp b)) v).readByte (s.loc (.zp b)).first = loByte v ∧
        SameMemoryBut [(s.loc (.zp b)).first] s (s.writeOp s.wide (s.loc (.zp b)) v)))

/-- `zp,X` and `zp,Y` without IND (R140, R142, R145), whatever register is the index: an index in pages 0 and 1 adds
modulo 256, in page 0, or in its own page where the parameter of conflict C16 keeps it (log 17); any other adds modulo
65,536. -/
def Obligations.IndexedZeroPage : Prop :=
  ∀ (s : State) (b : Byte), s.pre.ind = false →
    ∀ (l : Loc) (x : Word),
      (l = s.loc (.zpX b) ∧ x = s.xIndex) ∨ (l = s.loc (.zpY b) ∧ x = s.yIndex) →
      (512 ≤ x.toNat →
        l.first.toNat = (x.toNat + b.toNat) % 65536 ∧ l.second.toNat = (x.toNat + b.toNat + 1) % 65536) ∧
      (x.toNat < 512 → s.cfg.page1Index = .dropPage →
        l.first.toNat = (x.toNat + b.toNat) % 256 ∧ l.second.toNat = (x.toNat + b.toNat + 1) % 256) ∧
      (x.toNat < 512 → s.cfg.page1Index = .keepPage →
        l.first.toNat = x.toNat / 256 * 256 + (x.toNat + b.toNat) % 256 ∧
        l.second.toNat = x.toNat / 256 * 256 + (x.toNat + b.toNat + 1) % 256)

/-- Indirection by IND comes before indexing (R131, R141, R147, R152, R153, R155, R156, R157, R160, R161, R162, R171; and
R137 and R145): every mode reads one more pointer, the index is added to the last pointer, and the operand's second byte
is at the next address of 16 bits. The pointer of `sp,S` lies where its operand would without IND, in both readings of
U8 (log 18). Under OSX, where R162 and U9 say to refuse, `bp,B` keeps a signed offset and a plain sum: the model's choices
(log 16), as is that X-indexed modes run there (log 15). -/
def Obligations.IndirectionBeforeIndexing : Prop :=
  ∀ (s : State) (b : Byte) (w : Word), s.pre.ind = true →
    (s.loc (.zp b)).first = s.zpPointer b ∧
    (s.loc (.zpX b)).first = s.zpPointer b + s.xIndex ∧
    (s.loc (.zpY b)).first = s.zpPointer b + s.yIndex ∧
    (s.loc (.zpInd b)).first = s.pointerAt (s.zpPointer b) ∧
    (s.loc (.zpXInd b)).first = s.pointerAt (s.zpPointer b) + s.xIndex ∧
    (s.loc (.zpIndY b)).first = s.pointerAt (s.zpPointer b) + s.yIndex ∧
    (s.loc (.abs w)).first = s.pointerAt w ∧
    (s.loc (.absX w)).first = s.pointerAt w + s.xIndex ∧
    (s.loc (.absY w)).first = s.pointerAt w + s.yIndex ∧
    (s.loc (.sp b)).first = s.readPair (s.spLoc b) ∧
    (s.loc (.spIndY b)).first = s.pointerAt (s.readPair (s.spLoc b)) + s.yIndex ∧
    (s.loc (.bp b)).first = s.pointerAt (s.bpBase + sext b) ∧
    (s.loc (.ip b)).first = s.pointerAt s.ip ∧
    (∀ m : Mode, (s.loc m).second = (s.loc m).first + 1) ∧
    ∀ pa : Word,
      let v := s.sp s.stackPtr
      pa.toNat =
        (if s.cfg.spSum = .pageLocked ∧ s.stackPtr ≠ .aux ∧ v.toNat < 0x0200
          then v.toNat / 256 * 256 + (v.toNat + 1 + b.toNat) % 256
          else (v.toNat + 1 + b.toNat) % 65536) →
      s.spLoc b = { first := pa, second := pa + 1 } ∧
      (s.loc (.sp b)).first = joinBytes (s.readByte (pa + 1)) (s.readByte pa)

/-- The other modes without IND (R146, R152, R153, R155 to R157, R160 to R162, R170), whatever registers are index, base
and stack pointer: the pointer in page 0 with its second byte modulo 256; `sp,S` one past the pointer with an unsigned
offset, in 16 bits, or within the page of a locked pointer in the other reading of U8 (log 18); `bp,B` with a signed
offset, also under OSX, and a plain sum there in both readings of U8 (the model's choices, log 16); and IP. The operand's
second byte is at the next address. -/
def Obligations.AddressesWithoutInd : Prop :=
  ∀ (s : State) (b : Byte) (w : Word), s.pre.ind = false →
    let zp := joinBytes (s.readByte (joinBytes 0x00 (b + 1))) (s.readByte (joinBytes 0x00 b))
    let both (a : Word) : Loc := { first := a, second := a + 1 }
    s.loc (.zpInd b) = both zp ∧
    s.loc (.zpXInd b) = both (joinBytes (s.readByte (s.loc (.zpX b)).second) (s.readByte (s.loc (.zpX b)).first)) ∧
    s.loc (.zpIndY b) = both (zp + s.yIndex) ∧
    s.loc (.abs w) = both w ∧ s.loc (.absX w) = both (w + s.xIndex) ∧ s.loc (.absY w) = both (w + s.yIndex) ∧
    (s.loc (.bp b) = both (s.bpBase + sext b) ∧ (sext b).toInt = b.toInt) ∧
    s.loc (.ip b) = both s.ip ∧
    ∀ pa : Word,
      let v := s.sp s.stackPtr
      pa.toNat =
        (if s.cfg.spSum = .pageLocked ∧ s.stackPtr ≠ .aux ∧ v.toNat < 0x0200
          then v.toNat / 256 * 256 + (v.toNat + 1 + b.toNat) % 256
          else (v.toNat + 1 + b.toNat) % 65536) →
      s.spLoc b = both pa ∧ s.loc (.sp b) = both pa ∧
      s.loc (.spIndY b) = both (joinBytes (s.readByte (pa + 1)) (s.readByte pa) + s.yIndex)

/-! ### Loads, stores and transfers -/

/-- The loads `lda`, `ldx`, `ldy` and `lds`, from memory and immediate (R330, R335 to R337): the register of the role,
at the operation width, with N and Z; for S, N and Z are unspecified (log 28). -/
def Obligations.Loads : Prop :=
  ∀ (s : State) (src : Source) (i : Instr) (r : Reg), (i, r) ∈ loads s src → sourceDefined src = true →
    ∃ t, exec i s = .next t ∧ Loaded s t r (.of s.wide (sourceValue s src)) ∧ t.ip = sourceIp s src ∧
      Completed s t (sourceSize src) ∧ OnlyChanges [r.field s, .n, .z, .free, .ip, .pc, .pre] s t ∧ SameMemory s t

/-- The stores `sta`, `stx`, `sty`, `stz` and `sts` (R331, R340 to R343): one or two bytes at the operand's address, and
no flag. -/
def Obligations.Stores : Prop :=
  ∀ (s : State) (m : Mode) (i : Instr) (v : Word), (i, v) ∈ stores s m → modeDefined m = true → s.mem.wf = true →
    ∃ t, exec i s = .next t ∧ WroteOp s t s.wide (s.loc m) v ∧ t.ip = (s.past m).ip ∧ Completed s t (modeSize m) ∧
      OnlyChanges [.ip, .pc, .pre] s t

/-- The transfers `tax`, `txa`, `tay` and `tya` (R350 to R354), with N and Z. -/
def Obligations.Transfers : Prop :=
  ∀ (s : State) (i : Instr) (dst src : Reg), (i, dst, src) ∈ transfers s →
    ∃ t, exec i s = .next t ∧ Loaded s t dst (.of s.wide (s.reg src)) ∧ Completed s t 1 ∧
      OnlyChanges [dst.field s, .n, .z, .free, .pc, .pre] s t ∧ SameMemory s t

/-- `txs`, `tsx`, `tas` and `tsa` (R351, R352, R355, R356, R365): in Kernel mode IND selects S_U. `txs` and `tsx` change
no flag, and are refused under OSX (U11, log 22); after `tas`, N and Z are free values (log 28). -/
def Obligations.StackPointerTransfers : Prop :=
  ∀ s : State,
    let dst : Field := if s.p.m && !s.pre.ind then .sk else .su
    let get (t : State) : Word := if s.p.m && !s.pre.ind then t.sk else t.su
    (s.pre.osx = false → ∃ t, exec .txs s = .next t ∧ get t = (Result.of s.wide (s.reg s.xReg)).word .sp ∧
      Completed s t 1 ∧ OnlyChanges [dst, .pc, .pre] s t ∧ SameMemory s t) ∧
    (s.pre.osx = false → ∃ t, exec .tsx s = .next t ∧ t.reg s.xReg = (Result.of s.wide (get s)).word s.xReg ∧
      Completed s t 1 ∧ OnlyChanges [s.xReg.field s, .pc, .pre] s t ∧ SameMemory s t) ∧
    (s.pre.osx = true → exec .txs s = .refused .osxTransfer ∧ exec .tsx s = .refused .osxTransfer) ∧
    (∃ t, exec .tas s = .next t ∧ get t = (Result.of s.wide (s.reg s.accReg)).word .sp ∧
      t.p.n = Config.freeBit s.free ∧ t.p.z = Config.freeBit (s.free + 1) ∧ t.free = s.free + 2 ∧
      Completed s t 1 ∧ OnlyChanges [dst, .n, .z, .free, .pc, .pre] s t ∧ SameMemory s t) ∧
    (∃ t, exec .tsa s = .next t ∧ Loaded s t s.accReg (.of s.wide (get s)) ∧
      Completed s t 1 ∧ OnlyChanges [s.accReg.field s, .n, .z, .pc, .pre] s t ∧ SameMemory s t)

/-! ### Logic, bits and flags -/

/-- `ora`, `and` and `eor`, on memory and immediate (R381, R384 to R386). -/
def Obligations.Logic : Prop :=
  ∀ (s : State) (src : Source) (i : Instr) (op : LogicOp), (i, op) ∈ logics src → sourceDefined src = true →
    ∃ t, exec i s = .next t ∧
      Loaded s t s.accReg
        { wide := s.wide
          r8 := logicBits op (loByte (s.reg s.accReg)) (loByte (sourceValue s src))
          r16 := logicBits op (s.reg s.accReg) (sourceValue s src) } ∧
      t.ip = sourceIp s src ∧ Completed s t (sourceSize src) ∧
      OnlyChanges [s.accReg.field s, .n, .z, .ip, .pc, .pre] s t ∧ SameMemory s t

/-- `bit` (R390): Z of the accumulator and the operand; N and V are the operand's two top bits, but for the immediate
form, which changes Z only. That the two top bits at 16 bits are 15 and 14 is the spec's decision D15, where its source
does not say (U21, log 31). -/
def Obligations.BitTests : Prop :=
  ∀ s : State,
    let both (v : Word) : Result := .of s.wide (s.reg s.accReg &&& v)
    (∀ m : Mode, modeDefined m = true →
      let v := s.readOp s.wide (s.loc m)
      ∃ t, exec (.bit m) s = .next t ∧ t.p.z = (both v).z ∧ t.p.n = (Result.of s.wide v).n ∧
        t.p.v = (if s.wide then v.getLsbD 14 else v.getLsbD 6) ∧ t.ip = (s.past m).ip ∧
        Completed s t (modeSize m) ∧ OnlyChanges [.n, .v, .z, .ip, .pc, .pre] s t ∧ SameMemory s t) ∧
    (∀ imm : Imm, ∃ t, exec (.bitImm imm) s = .next t ∧ t.p.z = (both imm.value).z ∧
      Completed s t (1 + imm.size) ∧ OnlyChanges [.z, .pc, .pre] s t ∧ SameMemory s t)

/-- `tsb` and `trb` (R391, R392): Z of the accumulator and the value read; the accumulator's bits are set, or cleared, in
the operand. -/
def Obligations.TestAndModify : Prop :=
  ∀ (s : State) (m : Mode), modeDefined m = true → s.mem.wf = true →
    let v := s.readOp s.wide (s.loc m)
    let acc := s.reg s.accReg
    let z := (Result.of s.wide (acc &&& v)).z
    (∃ t, exec (.tsb m) s = .next t ∧ t.p.z = z ∧ WroteOp s t s.wide (s.loc m) (v ||| acc) ∧ t.ip = (s.past m).ip ∧
      Completed s t (modeSize m) ∧ OnlyChanges [.z, .ip, .pc, .pre] s t) ∧
    (∃ t, exec (.trb m) s = .next t ∧ t.p.z = z ∧ WroteOp s t s.wide (s.loc m) (v &&& ~~~ acc) ∧
      t.ip = (s.past m).ip ∧ Completed s t (modeSize m) ∧ OnlyChanges [.z, .ip, .pc, .pre] s t)

/-- `rmb0` to `rmb7` and `smb0` to `smb7` (R393, R394): one bit of one byte, at the zero-page address, or where the
pointer there points under IND (log 33); no flag. -/
def Obligations.BitChanges : Prop :=
  ∀ (s : State) (zp : Byte) (i : Instr) (n : Nat) (b : Bool), (i, n, b) ∈ bitChanges zp → s.mem.wf = true →
    let a := if s.pre.ind then s.zpPointer zp else joinBytes 0x00 zp
    ∃ t, exec i s = .next t ∧
      (∀ k < 8, (t.readByte a).getLsbD k = if k = n then b else (s.readByte a).getLsbD k) ∧
      SameMemoryBut [a] s t ∧ Completed s t 2 ∧ OnlyChanges [.pc, .pre] s t

/-- The instructions of one byte with one effect: the prefixes `ind`, `siz`, `isz`, `oax`, `oay`, `osx` (R193 to R198),
the flag instructions `clc`, `sec`, `cli`, `sei`, `clv`, `cld`, `sed` (R401 to R407), `nop` (R318), `ini` (R253) and
`inw` (R252). -/
def Obligations.OneEffectInstructions : Prop :=
  ∀ s : State,
    exec .ind s = .next { s with pre := { s.pre with ind := true }, pc := s.pc + 1 } ∧
    exec .siz s = .next { s with pre := { s.pre with siz := true }, pc := s.pc + 1 } ∧
    exec .isz s = .next { s with pre := { s.pre with ind := true, siz := true }, pc := s.pc + 1 } ∧
    exec .oax s = .next { s with pre := { s.pre with oax := true, oay := false, osx := false }, pc := s.pc + 1 } ∧
    exec .oay s = .next { s with pre := { s.pre with oay := true, oax := false }, pc := s.pc + 1 } ∧
    exec .osx s = .next { s with pre := { s.pre with osx := true, oax := false }, pc := s.pc + 1 } ∧
    (∀ (i : Instr) (p : Psw), (i, p) ∈ flagChanges s.p →
      exec i s = .next { s with p := p, pc := s.pc + 1, pre := .clear }) ∧
    exec .nop s = .next { s with pc := s.pc + 1, pre := .clear } ∧
    exec .ini s = .next { s with ip := s.ip + 1, pc := s.pc + 1, pre := .clear } ∧
    exec .inw s = .next { s with w := s.w + 1, pc := s.pc + 1, pre := .clear }

/-! ### Shifts -/

/-- `asl A`, `rol A`, `lsr A`, `ror A`, `asr A` and `asr.w A` (R420, R425 to R428, R433): the accumulator, N, Z, and C
the bit shifted out. -/
def Obligations.ShiftAccumulator : Prop :=
  ∀ (s : State) (i : Instr) (k : ShiftKind), (i, k) ∈ shiftsAcc →
    let a8 := shiftBits k s.p.c (loByte (s.reg s.accReg))
    let a16 := shiftBits k s.p.c (s.reg s.accReg)
    ∃ t, exec i s = .next t ∧ Loaded s t s.accReg { wide := s.wide, r8 := a8.1, r16 := a16.1 } ∧
      t.p.c = (if s.wide then a16.2 else a8.2) ∧ Completed s t 1 ∧
      OnlyChanges [s.accReg.field s, .n, .z, .c, .pc, .pre] s t ∧ SameMemory s t

/-- `asl A` and `rol A` under IND (R432): as without, and V is written with an unspecified value (U19, log 29). -/
def Obligations.ShiftWithFreeV : Prop :=
  ∀ (s : State) (i : Instr) (k : ShiftKind), (i, k) ∈ [(Instr.aslAV, ShiftKind.asl), (.rolAV, .rol)] →
    let a8 := shiftBits k s.p.c (loByte (s.reg s.accReg))
    let a16 := shiftBits k s.p.c (s.reg s.accReg)
    let x : Result := { wide := s.wide, r8 := a8.1, r16 := a16.1 }
    ∃ t, exec i s = .next t ∧ t.reg s.accReg = x.word s.accReg ∧ t.p.n = x.n ∧ t.p.z = x.z ∧
      t.p.c = (if s.wide then a16.2 else a8.2) ∧ t.p.v = Config.freeBit s.free ∧ t.free = s.free + 1 ∧
      Completed s t 1 ∧ OnlyChanges [s.accReg.field s, .n, .v, .z, .c, .free, .pc, .pre] s t ∧ SameMemory s t

/-- `asl`, `rol`, `lsr` and `ror` on memory (R420, R422, R425 to R428): the operand is shifted in place. -/
def Obligations.ShiftMemory : Prop :=
  ∀ (s : State) (m : Mode) (i : Instr) (k : ShiftKind), (i, k) ∈ shiftsMem m → modeDefined m = true →
    s.mem.wf = true →
    let v := s.readOp s.wide (s.loc m)
    let a8 := shiftBits k s.p.c (loByte v)
    let a16 := shiftBits k s.p.c v
    let x : Result := { wide := s.wide, r8 := a8.1, r16 := a16.1 }
    ∃ t, exec i s = .next t ∧ WroteOp s t s.wide (s.loc m) (x.word .a) ∧ t.p.n = x.n ∧ t.p.z = x.z ∧
      t.p.c = (if s.wide then a16.2 else a8.2) ∧ t.ip = (s.past m).ip ∧ Completed s t (modeSize m) ∧
      OnlyChanges [.n, .z, .c, .ip, .pc, .pre] s t

/-! ### Arithmetic -/

/-- Binary `adc` and `sbc`, on memory and immediate (R440, R441, R445, R446): the result, N and Z, the carry out (for
`sbc`, no borrow), and V the signed overflow, at 8 bits, and at 16 whatever D is (R442, log 40). -/
def Obligations.BinaryAddSub : Prop :=
  ∀ (s : State) (src : Source) (i : Instr) (sub : Bool), (i, sub) ∈ addSubs src → sourceDefined src = true →
    s.p.d = false ∨ s.wide = true →
    let r := arith s.wide sub (s.reg s.accReg) (sourceValue s src) s.p.c
    ∃ t, exec i s = .next t ∧ Loaded s t s.accReg r.result ∧ t.p.c = r.carry ∧ t.p.v = r.overflow ∧
      t.ip = sourceIp s src ∧ Completed s t (sourceSize src) ∧
      OnlyChanges [s.accReg.field s, .n, .v, .z, .c, .ip, .pc, .pre] s t ∧ SameMemory s t

/-- Decimal `adc` and `sbc` (R442): on valid operands the packed decimal sum or difference modulo 100, carry out or no
borrow, N and Z of the result, V unspecified (log 25); on invalid operands the result and the four flags are
unspecified (U20, log 26). -/
def Obligations.DecimalAddSub : Prop :=
  ∀ (s : State) (src : Source) (i : Instr) (sub : Bool), (i, sub) ∈ addSubs src → sourceDefined src = true →
    s.p.d = true → s.wide = false →
    let l := loByte (s.reg s.accReg)
    let r := loByte (sourceValue s src)
    let e : Int := if sub then (bcd l : Int) - bcd r - (!s.p.c).toNat else (bcd l : Int) + bcd r + s.p.c.toNat
    ∃ t, exec i s = .next t ∧
      (if bcdValid l && bcdValid r then
        (∃ d : Byte, t.reg s.accReg = joinBytes 0x00 d ∧ bcdValid d = true ∧ (bcd d : Int) = e % 100 ∧
          t.p.n = d.msb ∧ t.p.z = decide (d = 0)) ∧
        t.p.c = (if sub then decide (0 ≤ e) else decide (100 ≤ e)) ∧
        t.p.v = Config.freeBit s.free ∧ t.free = s.free + 1
      else
        t.reg s.accReg = joinBytes 0x00 (loByte (Config.freeWord s.free)) ∧
        t.p.n = Config.freeBit s.free ∧ t.p.v = Config.freeBit (s.free + 1) ∧
        t.p.z = Config.freeBit (s.free + 2) ∧ t.p.c = Config.freeBit (s.free + 3) ∧ t.free = s.free + 4) ∧
      t.ip = sourceIp s src ∧ Completed s t (sourceSize src) ∧
      OnlyChanges [s.accReg.field s, .n, .v, .z, .c, .free, .ip, .pc, .pre] s t ∧ SameMemory s t

/-- `cmp`, `cpx`, `cpy` and `cps`, on memory and immediate (R447 to R449): N, Z and C of the difference, and V when it
is 16-bit; the register stays. -/
def Obligations.Compare : Prop :=
  ∀ (s : State) (src : Source) (i : Instr) (r : Reg), (i, r) ∈ compares s src → sourceDefined src = true →
    let d := arith s.wide true (s.reg r) (sourceValue s src) true
    ∃ t, exec i s = .next t ∧ t.p.n = d.result.n ∧ t.p.z = d.result.z ∧ t.p.c = d.carry ∧
      t.p.v = (if s.wide then d.overflow else s.p.v) ∧ t.ip = sourceIp s src ∧ Completed s t (sourceSize src) ∧
      OnlyChanges [.n, .v, .z, .c, .ip, .pc, .pre] s t ∧ SameMemory s t

/-- `add ip,I++` and `sub ip,I++` (R460, R461): a sum without carry in, a difference without borrow in, and IP past the
operand; C and V of it (D15, log 31). Where D is set and the width is 8 bits the result, C and V are unspecified (U15,
log 30), and N and Z are those of the result. -/
def Obligations.AddSubAtIp : Prop :=
  ∀ (s : State) (i : Instr) (sub : Bool), (i, sub) ∈ [(Instr.add 0, false), (.sub 0, true)] →
    let r := arith s.wide sub (s.reg s.accReg) (s.readOp s.wide (s.loc (.ip 0))) sub
    let any : Result := .of false (Config.freeWord s.free)
    ∃ t, exec i s = .next t ∧
      (if s.p.d && !s.wide then
        t.reg s.accReg = any.word s.accReg ∧ t.p.n = any.n ∧ t.p.z = any.z ∧
          t.p.c = Config.freeBit s.free ∧ t.p.v = Config.freeBit (s.free + 1) ∧ t.free = s.free + 2
      else Loaded s t s.accReg r.result ∧ t.p.c = r.carry ∧ t.p.v = r.overflow) ∧
      t.ip = s.ip + (if s.pre.ind || s.wide then 2 else 1) ∧ Completed s t 2 ∧
      OnlyChanges [s.accReg.field s, .n, .v, .z, .c, .free, .ip, .pc, .pre] s t ∧ SameMemory s t

/-- `inc` and `dec` on memory (R450, R451): the operand modulo its width, with N and Z. -/
def Obligations.StepMemory : Prop :=
  ∀ (s : State) (m : Mode) (i : Instr) (k : Word), (i, k) ∈ stepsMem m → modeDefined m = true → s.mem.wf = true →
    let v := s.readOp s.wide (s.loc m)
    let x : Result := { wide := s.wide, r8 := loByte v + loByte k, r16 := v + k }
    ∃ t, exec i s = .next t ∧ WroteOp s t s.wide (s.loc m) (x.word .a) ∧ t.p.n = x.n ∧ t.p.z = x.z ∧
      t.ip = (s.past m).ip ∧ Completed s t (modeSize m) ∧ OnlyChanges [.n, .z, .ip, .pc, .pre] s t

/-- `inc A`, `dec A`, `inx`, `dex`, `iny`, `dey`, `ins` and `des` (R452 to R457): the register modulo the operation
width, with N and Z, which are unspecified for S (log 28). `inc A` and `dec A` under IND (R466): C too, by the
spec's own decision D39 the carry out of the sum, "The source gives no formula; this spec takes the carry out of the
adder" (log 45): set by `inc A` when the result is zero, and by `dec A` when the operand is not. -/
def Obligations.StepRegisters : Prop :=
  ∀ s : State,
    let sum (v k : Word) : Result := { wide := s.wide, r8 := loByte v + loByte k, r16 := v + k }
    (∀ (i : Instr) (r : Reg) (k : Word), (i, r, k) ∈ stepsReg s →
      ∃ t, exec i s = .next t ∧ Loaded s t r (sum (s.reg r) k) ∧ Completed s t 1 ∧
        OnlyChanges [r.field s, .n, .z, .free, .pc, .pre] s t ∧ SameMemory s t) ∧
    (∀ (i : Instr) (k : Word) (c : Bool),
      (i, k, c) ∈ [(Instr.incAC, 1, (sum (s.reg s.accReg) 1).z),
        (.decAC, -1, !(Result.of s.wide (s.reg s.accReg)).z)] →
      ∃ t, exec i s = .next t ∧ Loaded s t s.accReg (sum (s.reg s.accReg) k) ∧ t.p.c = c ∧ Completed s t 1 ∧
        OnlyChanges [s.accReg.field s, .n, .z, .c, .pc, .pre] s t ∧ SameMemory s t)

/-! ### Control flow -/

/-- The branches (R154, R480 to R491, R488, R490): `bpl` `bmi` `bvc` `bvs` `bra` `bcc` `bcs` `bne` `beq` `ble` `bgt`
`blt` `bge` `bhs` `blo` `bhi` `bls` with a signed byte, and `jpl` `jmi` `jvc` `jvs` `jrl` `jcc` `jcs` `jne` `jeq` `jle`
`jgt` `jlt` `jge` `jhs` `jlo` `jhi` `jls` with a signed word, from the address after the instruction, when the
condition holds; and no flag. -/
def Obligations.Branches : Prop :=
  ∀ (s : State) (i : Instr) (taken : Bool) (size : Nat) (disp : Int),
    ((∃ rel : Byte, (i, taken) ∈ shortBranches s.p rel ∧ size = 2 ∧ disp = rel.toInt) ∨
      (∃ rel : Word, (i, taken) ∈ longBranches s.p rel ∧ size = 3 ∧ disp = rel.toInt)) →
    ∃ t, exec i s = .next t ∧
      (t.pc.toNat : Int) = (s.pc.toNat + size + (if taken then disp else 0)) % 65536 ∧ t.pre = .clear ∧
      OnlyChanges [.pc, .pre] s t ∧ SameMemory s t

/-- `bbr0` to `bbr7` and `bbs0` to `bbs7` (R164, R495, R496): taken when the bit of the zero-page byte, or under IND of
the byte where the pointer points (log 33), has the value tested for. -/
def Obligations.BitBranches : Prop :=
  ∀ (s : State) (zp rel : Byte) (i : Instr) (n : Nat) (want : Bool), (i, n, want) ∈ bitBranches zp rel →
    let a := if s.pre.ind then s.zpPointer zp else joinBytes 0x00 zp
    ∃ t, exec i s = .next t ∧
      (t.pc.toNat : Int) =
        (s.pc.toNat + 3 + (if (s.readByte a).getLsbD n = want then rel.toInt else 0)) % 65536 ∧
      t.pre = .clear ∧ OnlyChanges [.pc, .pre] s t ∧ SameMemory s t

/-- `jmp abs`, `jmp (abs)` and `jmp (abs,X)` (R158, R159, R500 to R502): the pc alone; IND reads one more pointer, before
the index is added. `jmp abs` under IND is an inferred form (U11, log 33), and `jmp (abs,X)` under OSX, which R502
refuses, runs by the model's choice (log 15). -/
def Obligations.Jumps : Prop :=
  ∀ (s : State) (w : Word),
    (∃ t, exec (.jmpAbs w) s = .next t ∧ t.pc = (if s.pre.ind then s.pointerAt w else w) ∧ t.pre = .clear ∧
      OnlyChanges [.pc, .pre] s t ∧ SameMemory s t) ∧
    (∃ t, exec (.jmpInd w) s = .next t ∧
      t.pc = (if s.pre.ind then s.pointerAt (s.pointerAt w) else s.pointerAt w) ∧ t.pre = .clear ∧
      OnlyChanges [.pc, .pre] s t ∧ SameMemory s t) ∧
    (∃ t, exec (.jmpIndX w) s = .next t ∧
      t.pc = (if s.pre.ind then s.pointerAt (s.pointerAt w) + s.xIndex else s.pointerAt (w + s.xIndex)) ∧
      t.pre = .clear ∧ OnlyChanges [.pc, .pre] s t ∧ SameMemory s t)

/-- `jsr` (R505): the address of its last byte is pushed, on the auxiliary stack under OSX, and the pc is the operand,
or the pointer there under IND, read after the push (log 33). `rts` (R506): the word pulled, plus one. -/
def Obligations.CallAndReturn : Prop :=
  ∀ (s : State) (w : Word), s.mem.wf = true →
    (∃ t, exec (.jsr w) s = .next t ∧ Pushed16 s t s.stackPtr (s.pc + 2) ∧
      t.pc = (if s.pre.ind then t.pointerAt w else w) ∧ t.pre = .clear ∧
      OnlyChanges [s.stackPtr.field, .pc, .pre] s t) ∧
    (∃ t, exec .rts s = .next t ∧ t.sp s.stackPtr = s.stackPtr.up (s.stackPtr.up (s.sp s.stackPtr)) ∧
      t.pc = pulledWord s s.stackPtr + 1 ∧ t.pre = .clear ∧ OnlyChanges [s.stackPtr.field, .pc, .pre] s t ∧
      SameMemory s t)

/-- A call returns (R505, R506, R79): after `jsr`, `rts` goes to the instruction after the call with the stack pointer
as before it, where the pointer is locked to its page or the two bytes do not bring it into page 1 from above. -/
def Obligations.ReturnAfterCall : Prop :=
  ∀ (s : State) (w : Word), s.mem.wf = true → s.pre.osx = false →
    s.modePtr.locked (s.sp s.modePtr) = true ∨ 0x0202 ≤ (s.sp s.modePtr).toNat →
    ∃ t u, exec (.jsr w) s = .next t ∧ exec .rts t = .next u ∧ u.pc = s.pc + 3 ∧ u.pre = .clear ∧
      OnlyChanges [.pc, .pre] s u ∧
      SameMemoryBut [s.sp s.modePtr, s.modePtr.down (s.sp s.modePtr)] s u

/-! ### Traps, interrupts and reset -/

/-- `brk` (R520): its own entry, with bit 4 set in the byte pushed and the return value BRK_PUSH_OFFSET past the opcode
(log 32). An unassigned opcode, 82, 6F, 8F or AF (R112, log 5): one byte and no effect, or, where UNUSED_OPCODE is
inv_trap, the entry with the address of the opcode (log 42). -/
def Obligations.Traps : Prop :=
  ∀ (s : State), s.mem.wf = true →
    (∀ b : Byte, ∃ t, exec (.brk b) s = .next t ∧
      Entered s t (s.pc + (if s.cfg.brkPushOffset = .one then 1 else 2)) true s.cfg.vecBrk ∧
      OnlyChanges [.sk, .m, .i, .d, .pc, .pre] s t) ∧
    (∀ i ∈ unassigneds, ∃ t, exec i s = .next t ∧
      (s.cfg.unusedOpcode = .nop1 → t = { s with pc := s.pc + 1, pre := .clear }) ∧
      (s.cfg.unusedOpcode = .invTrap →
        Entered s t s.pc false s.cfg.vecInv ∧ OnlyChanges [.sk, .m, .i, .d, .pc, .pre] s t))

/-- Interrupt entry (R545, R546): the pc less one and then P with bit 4 clear on S_K, whatever the mode; M and I set, D
clear; the pc is the word at the vector; nothing else changes but that the core runs. The vector (R541) is the one
presented, or else VEC_IRQ or VEC_NMI by the kind. -/
def Obligations.InterruptEntry : Prop :=
  ∀ (s : State) (r : IntRequest), s.mem.wf = true →
    Entered s (s.takeInterrupt r) (s.pc - 1) false (s.vectorOf r) ∧ (s.takeInterrupt r).run = .running ∧
      OnlyChanges [.sk, .m, .i, .d, .pc, .pre, .run] s (s.takeInterrupt r) ∧
      (∀ v, r.vector = some v → s.vectorOf r = v) ∧
      (r.vector = none → r.kind = .maskable → s.vectorOf r = s.cfg.vecIrq) ∧
      (r.vector = none → r.kind = .nonMaskable → s.vectorOf r = s.cfg.vecNmi)

/-- `rti` (R510, R551): P, then the return value, pulled with the pointer selected before P changes, the auxiliary one under
OSX; M is loaded in Kernel mode alone, by the spec's decision D28 (log 36); the pc is one past the value. -/
def Obligations.ReturnFromInterrupt : Prop :=
  ∀ s : State,
    let k := s.stackPtr
    let a1 := k.up (s.sp k)
    let a2 := k.up a1
    let a3 := k.up a2
    ∃ t, exec .rti s = .next t ∧ t.sp k = a3 ∧
      t.pc = joinBytes (s.readByte a3) (s.readByte a2) + 1 ∧
      IsPByte { t.p with m := (s.readByte a1).getLsbD 5 } ((s.readByte a1).getLsbD 4) (s.readByte a1) ∧
      t.p.m = (if s.p.m then (s.readByte a1).getLsbD 5 else s.p.m) ∧ t.pre = .clear ∧
      OnlyChanges [k.field, .n, .v, .m, .d, .i, .z, .c, .pc, .pre] s t ∧ SameMemory s t

/-- An interrupt and its `rti` undo each other (R545, R510, R550): the mode, P, the pc and S_K are as they were; all that
has changed are the three bytes of the frame, and that the core runs. S_K is locked to its page, or three bytes do not
bring it into page 1 from above (R79). -/
def Obligations.InterruptThenReturn : Prop :=
  ∀ (s : State) (r : IntRequest), s.mem.wf = true → s.pre = .clear →
    StackPtr.kernel.locked s.sk = true ∨ 0x0203 ≤ s.sk.toNat →
    ∃ t, exec .rti (s.takeInterrupt r) = .next t ∧ OnlyChanges [.run] s t ∧ t.run = .running ∧
      SameMemoryBut
        [s.sk, StackPtr.kernel.down s.sk, StackPtr.kernel.down (StackPtr.kernel.down s.sk)] s t

/-- The boundary after an instruction (R532, R533, R536, R565): a latched SO request sets V first. Then, while the core
runs, a request that I does not mask is taken after every instruction but the prefixes, the branches (`bbrN` and `bbsN`
among them, column F of the W65C02S variant), `jmp`, `jsr`, `sei` and `cli`, after which none is. After `stp` none is
taken (R321). After `wai` the wait may end at once (R320): an unmasked request is taken, and a masked one ends the wait
without a handler. That a masked request in the record is `xIRQ` too is the model's reading (log 12). -/
def Obligations.BoundaryRules : Prop :=
  ∀ (s : State) (op : Byte) (inp : Inputs),
    let t : State := if s.soLatch then { s with p := { s.p with v := true }, soLatch := false } else s
    let blocked : Prop :=
      op ∈ ([0x8B, 0x9B, 0xAB, 0xBB, 0xEB, 0xFB] : List Byte) ∨
        op ∈ ([0x10, 0x30, 0x50, 0x70, 0x80, 0x90, 0xB0, 0xD0, 0xF0] : List Byte) ∨
        (s.cfg.variant = .w65c02s ∧ op.toNat % 16 = 15) ∨
        op ∈ ([0x4C, 0x6C, 0x7C, 0x20, 0x78, 0x58] : List Byte)
    (s.run = .running →
      (blocked → s.boundary op inp = t) ∧
      (inp.int = none → s.boundary op inp = t) ∧
      (∀ r, inp.int = some r → r.kind = .maskable → s.p.i = true → s.boundary op inp = t) ∧
      (∀ r, inp.int = some r → ¬ blocked → (r.kind = .maskable → s.p.i = false) →
        s.boundary op inp = t.takeInterrupt r)) ∧
    (s.run = .stopped → s.boundary op inp = t) ∧
    (s.run = .waiting →
      (inp.int = none → inp.xirq = false ∨ s.p.i = false → s.boundary op inp = t) ∧
      (inp.int = none → inp.xirq = true → s.p.i = true → s.boundary op inp = { t with run := .running }) ∧
      (∀ r, inp.int = some r → r.kind = .maskable → s.p.i = true →
        s.boundary op inp = { t with run := .running }) ∧
      (∀ r, inp.int = some r → (r.kind = .maskable → s.p.i = false) →
        s.boundary op inp = t.takeInterrupt r))

/-- `wai` and `stp` (R320, R321, R568): both pass one byte and change the run state. A stopped core stays so until
reset. A waiting one takes a request that is not masked, goes on without a handler when a masked one is there (`xIRQ`
with I set), and else waits. That waiting and stopped are idle next steps is the model's choice (log 37); that the SO
latch is kept through the wait and sets V when it ends, and that a masked request in the record is `xIRQ` too, are its
readings (logs 14 and 12). -/
def Obligations.WaitAndStop : Prop :=
  ∀ s : State,
    exec .wai s = .next { s with run := .waiting, pc := s.pc + 1, pre := .clear } ∧
    exec .stp s = .next { s with run := .stopped, pc := s.pc + 1, pre := .clear } ∧
    (s.sample.rst = false →
      let t : State := { s with inputs := s.inputs.tail, soLatch := s.soLatch || s.sample.so }
      (s.run = .stopped → step s = .next t) ∧
      (s.run = .waiting →
        (s.sample.int = none → s.sample.xirq = false → step s = .next t) ∧
        (s.sample.int = none → s.p.i = false → step s = .next t) ∧
        (s.sample.int = none → s.sample.xirq = true → s.p.i = true →
          step s = .next { t.applySo with run := .running }) ∧
        (∀ r, s.sample.int = some r → r.kind = .maskable → s.p.i = true →
          step s = .next { t.applySo with run := .running }) ∧
        (∀ r, s.sample.int = some r → (r.kind = .maskable → s.p.i = false) →
          step s = .next (t.applySo.takeInterrupt r))))

/-- The reset sequence (R580 to R582): requested, it is the step, whatever the run state; Kernel mode, I set, D clear,
S_K = 0x01FF (the spec's decision D6, log 7), no prefix flag, running, no latched SO request, and the pc at the word at
VEC_RST; the register stacks and all memory but 0x0100 to 0x0102 stay. What R581 leaves unspecified, those three bytes,
S_U, IP, W, N, V, Z and C, are free values, in an order that is the model's choice (log 13). -/
def Obligations.ResetSequence : Prop :=
  ∀ s : State, s.mem.wf = true →
    (s.sample.rst = true → step s = .next s.sampled.resetSequence) ∧
    let t := s.resetSequence
    let byte (k : Nat) : Byte := loByte (Config.freeWord (s.free + k))
    t.p = { n := Config.freeBit s.free, v := Config.freeBit (s.free + 1), m := true, d := false, i := true
            z := Config.freeBit (s.free + 2), c := Config.freeBit (s.free + 3) } ∧
      t.sk = 0x01FF ∧ t.pre = .clear ∧ t.run = .running ∧
      t.soLatch = false ∧ t.pc = t.pointerAt s.cfg.vecRst ∧
      t.su = Config.freeWord (s.free + 3) ∧ t.ip = Config.freeWord (s.free + 4) ∧
      t.w = Config.freeWord (s.free + 5) ∧ t.free = s.free + 6 ∧
      t.readByte 0x0102 = byte 0 ∧ t.readByte 0x0101 = byte 1 ∧ t.readByte 0x0100 = byte 2 ∧
      OnlyChanges [.sk, .su, .ip, .w, .pc, .n, .v, .m, .d, .i, .z, .c, .pre, .run, .soLatch, .free] s t ∧
      SameMemoryBut [0x0100, 0x0101, 0x0102] s t

/-! ### Stacks -/

/-- The arithmetic of stack pointers (R79): a system stack pointer in page 0 or 1 stays in its page; above, it is plain
16-bit. The auxiliary pointer X_TOS is plain 16-bit always, by the spec's own decision D33, where its source states no
page lock (log 43). -/
def Obligations.StackPointerSteps : Prop :=
  ∀ (k : StackPtr) (v : Word),
    (k ≠ .aux → v.toNat < 0x0200 →
      (k.up v).toNat = v.toNat / 256 * 256 + (v.toNat % 256 + 1) % 256 ∧
      (k.down v).toNat = v.toNat / 256 * 256 + (v.toNat % 256 + 255) % 256) ∧
    (k = .aux ∨ 0x0200 ≤ v.toNat →
      (k.up v).toNat = (v.toNat + 1) % 65536 ∧ (k.down v).toNat = (v.toNat + 65535) % 65536)

/-- Pushes and pulls (R80 to R83): a byte at the pointer, which then steps down; a step up and the byte there; a word as
two of each, its high byte pushed first, and so little-endian in memory. That one convention serves every stack pointer
is the spec's own decision D10, and the two forms for words, R82 and R83, are rules that the spec marks as derived (log
44). -/
def Obligations.PushesAndPulls : Prop :=
  ∀ (s : State) (k : StackPtr), s.mem.wf = true →
    (∀ b : Byte, Pushed8 s (s.push8 k b) k b ∧ OnlyChanges [k.field] s (s.push8 k b)) ∧
    (s.pull8 k = s.readByte (k.up (s.sp k)) ∧ (s.pulled8 k).sp k = k.up (s.sp k) ∧
      OnlyChanges [k.field] s (s.pulled8 k) ∧ SameMemory s (s.pulled8 k)) ∧
    (∀ v : Word, Pushed16 s (s.push16 k v) k v ∧ OnlyChanges [k.field] s (s.push16 k v)) ∧
    (s.pull16 k = joinBytes (s.readByte (k.up (k.up (s.sp k)))) (s.readByte (k.up (s.sp k))) ∧
      (s.pulled16 k).sp k = k.up (k.up (s.sp k)) ∧ OnlyChanges [k.field] s (s.pulled16 k) ∧
      SameMemory s (s.pulled16 k))

/-- `pha`, `phx`, `phy` and `phs` (R84, R280 to R283), at the operation width, and `php` (R284, R36), always a byte, with
bit 4 set. -/
def Obligations.RegisterPushes : Prop :=
  ∀ s : State, s.mem.wf = true →
    let k := s.stackPtr
    (∀ (i : Instr) (r : Reg), (i, r) ∈ pushes s →
      ∃ t, exec i s = .next t ∧
        (if s.wide then Pushed16 s t k (s.reg r) else Pushed8 s t k (loByte (s.reg r))) ∧
        Completed s t 1 ∧ OnlyChanges [k.field, .pc, .pre] s t) ∧
    (∃ t, exec .php s = .next t ∧ IsPByte s.p true (t.readByte (s.sp k)) ∧ Pushed8 s t k (t.readByte (s.sp k)) ∧
      Completed s t 1 ∧ OnlyChanges [k.field, .pc, .pre] s t)

/-- `pla`, `plx`, `ply` and `pls` (R84, R285 to R287), at the operation width, with N and Z (unspecified for S, log 28):
the pointer steps up, and then the register takes the value, also where the two are one register. `plp` (R288): the
flags of the byte; M stays. -/
def Obligations.RegisterPulls : Prop :=
  ∀ s : State,
    let k := s.stackPtr
    let a1 := k.up (s.sp k)
    (∀ (i : Instr) (r : Reg), (i, r) ∈ pulls s →
      let v : Word := if s.wide then pulledWord s k else joinBytes 0x00 (s.readByte a1)
      ∃ t, exec i s = .next t ∧ Loaded s t r (.of s.wide v) ∧
        (r.field s ≠ k.field → t.sp k = if s.wide then k.up a1 else a1) ∧ Completed s t 1 ∧
        OnlyChanges [k.field, r.field s, .n, .z, .free, .pc, .pre] s t ∧ SameMemory s t) ∧
    (∃ t, exec .plp s = .next t ∧ t.sp k = a1 ∧
      IsPByte { t.p with m := (s.readByte a1).getLsbD 5 } ((s.readByte a1).getLsbD 4) (s.readByte a1) ∧
      Completed s t 1 ∧ OnlyChanges [k.field, .n, .v, .d, .i, .z, .c, .pc, .pre] s t ∧ SameMemory s t)

/-- `psh #imm`, `psh` and `pul` on memory, and `phr` (R290 to R294, R300): always 16-bit, and no flag; `phr` pushes its
own target with PHR_BIAS (log 32). -/
def Obligations.WordPushesAndPulls : Prop :=
  ∀ s : State, s.mem.wf = true →
    let k := s.stackPtr
    (∀ w : Word,
      (∃ t, exec (.pshImm w) s = .next t ∧ Pushed16 s t k w ∧ Completed s t 3 ∧
        OnlyChanges [k.field, .pc, .pre] s t) ∧
      (∃ t, exec (.phr w) s = .next t ∧
        Pushed16 s t k (s.pc + 3 + w - (if s.cfg.phrBias = .minusOne then 1 else 0)) ∧ Completed s t 3 ∧
        OnlyChanges [k.field, .pc, .pre] s t)) ∧
    (∀ m : Mode, modeDefined m = true →
      (∃ t, exec (.psh m) s = .next t ∧ Pushed16 s t k (s.readPair (s.loc m)) ∧ t.ip = (s.past m).ip ∧
        Completed s t (modeSize m) ∧ OnlyChanges [k.field, .ip, .pc, .pre] s t) ∧
      (∃ t, exec (.pul m) s = .next t ∧ t.sp k = k.up (k.up (s.sp k)) ∧
        WroteOp s t true (s.loc m) (pulledWord s k) ∧ t.ip = (s.past m).ip ∧ Completed s t (modeSize m) ∧
        OnlyChanges [k.field, .ip, .pc, .pre] s t))

/-- `adj` (R302): the signed operand is added to the stack pointer, as a plain 16-bit sum or, where the parameter of U14
says so and the pointer is locked, within its page (log 19). `xma` (R304): the accumulator and the operand exchange, at
the operation width; N and Z are unspecified (log 27). -/
def Obligations.AdjustAndExchange : Prop :=
  ∀ (s : State) (b : Byte),
    let k := s.stackPtr
    let v := s.sp k
    (∃ t, exec (.adj b) s = .next t ∧
      (if s.cfg.adjSum = .pageLocked ∧ k.locked v = true
        then (t.sp k).toNat = v.toNat / 256 * 256 + (v.toNat + b.toNat) % 256
        else ((t.sp k).toNat : Int) = (v.toNat + b.toInt) % 65536) ∧
      Completed s t 2 ∧ OnlyChanges [k.field, .pc, .pre] s t ∧ SameMemory s t) ∧
    (s.mem.wf = true →
      ∃ t, exec (.xma b) s = .next t ∧ WroteOp s t s.wide (s.loc (.sp b)) (s.reg s.accReg) ∧
        t.reg s.accReg = (Result.of s.wide (s.readOp s.wide (s.loc (.sp b)))).word s.accReg ∧
        t.p.n = Config.freeBit s.free ∧ t.p.z = Config.freeBit (s.free + 1) ∧ t.free = s.free + 2 ∧
        Completed s t 2 ∧ OnlyChanges [s.accReg.field s, .n, .z, .free, .pc, .pre] s t)

/-! ### Register stacks -/

/-- `dup`, `swp` and `rot` (R221 to R224), on the register stack that OAX or OAY selects; no flag. Their bytes are 0x0B,
0x1B and 0x2B, which IND, and before `dup` also SIZ, make the extended instructions. -/
def Obligations.RegisterStackMoves : Prop :=
  (∀ (v : Variant) (f : PrefixFlags) (rest : List Byte),
    decode v f (0x0B :: rest) =
      .ok (if f.ind then (if f.siz then .xai else .tai) else if f.siz then .tia else .dup, rest) ∧
    decode v f (0x1B :: rest) = .ok (if f.ind then .bsw else .swp, rest) ∧
    decode v f (0x2B :: rest) = .ok (if f.ind then .rev else .rot, rest)) ∧
  ∀ (s : State) (i : Instr) (f : RegStack → RegStack),
    (i, f) ∈ [(Instr.dup, fun r => (⟨r.tos, r.tos, r.nos⟩ : RegStack)), (.swp, fun r => ⟨r.nos, r.tos, r.bos⟩),
      (.rot, fun r => ⟨r.nos, r.bos, r.tos⟩)] →
    ∃ t, exec i s = .next t ∧ Completed s t 1 ∧ SameMemory s t ∧
      (if s.pre.oax then t.x = f s.x ∧ OnlyChanges [.xTos, .xNos, .xBos, .pc, .pre] s t
      else if s.pre.oay then t.y = f s.y ∧ OnlyChanges [.yTos, .yNos, .yBos, .pc, .pre] s t
      else t.a = f s.a ∧ OnlyChanges [.aTos, .aNos, .aBos, .pc, .pre] s t)

/-- `tai`, `tia`, `xai`, `bsw` and `rev` (R226 to R230): A_TOS and IP alone, 16 bits, and no flag; refused under OAX and
OAY (R206, U12, log 21). -/
def Obligations.AccumulatorAndIp : Prop :=
  ∀ s : State,
    (s.pre.oax = true ∨ s.pre.oay = true →
      ∀ i ∈ [Instr.tai, .tia, .xai, .bsw, .rev], exec i s = .refused .registerStackOverride) ∧
    (s.pre.oax = false → s.pre.oay = false →
      let after (a ip : Word) : State := { s with a := { s.a with tos := a }, ip := ip, pc := s.pc + 1, pre := .clear }
      exec .tai s = .next (after s.a.tos s.a.tos) ∧
      exec .tia s = .next (after s.ip s.ip) ∧
      exec .xai s = .next (after s.ip s.a.tos) ∧
      exec .bsw s = .next (after (joinBytes (loByte s.a.tos) (hiByte s.a.tos)) s.ip) ∧
      ∃ r : Word, exec .rev s = .next (after r s.ip) ∧ ∀ k < 16, r.getLsbD k = s.a.tos.getLsbD (15 - k))

/-! ### FORTH virtual machine -/

/-- `nxt` and `ent`, direct and indirect threaded (R243 to R247): NEXT reads W at IP, IP passes it, and the pc is W, or
the word at W. ENTER first pushes IP, on X_TOS, or on S under OSX (R84), and IP is W plus ENT_IP_OFFSET (log 32). -/
def Obligations.NextAndEnter : Prop :=
  ∀ s : State,
    (∀ (i : Instr) (itc : Bool), (i, itc) ∈ [(Instr.nxt, false), (.nxtItc, true)] →
      ∃ t, exec i s = .next t ∧ t.w = s.pointerAt s.ip ∧ t.ip = s.ip + 2 ∧
        t.pc = (if itc then s.pointerAt t.w else t.w) ∧ t.pre = .clear ∧ OnlyChanges [.w, .ip, .pc, .pre] s t ∧
        SameMemory s t) ∧
    (∀ (i : Instr) (itc : Bool), (i, itc) ∈ [(Instr.ent, false), (.entItc, true)] → s.mem.wf = true →
      let ip := s.w + (if s.cfg.entIpOffset = .two then 2 else 0)
      ∃ t, exec i s = .next t ∧ Pushed16 s t s.vmPtr s.ip ∧ t.w = t.pointerAt ip ∧ t.ip = ip + 2 ∧
        t.pc = (if itc then t.pointerAt t.w else t.w) ∧ t.pre = .clear ∧
        OnlyChanges [s.vmPtr.field, .w, .ip, .pc, .pre] s t)

/-- `phi`, `phw`, `pli` and `plw` (R248 to R251): IP and W, always 16-bit, on X_TOS, or on S under OSX (R84); no flag. -/
def Obligations.PushAndPullIpW : Prop :=
  ∀ s : State,
    let k := s.vmPtr
    (s.mem.wf = true → ∀ (i : Instr) (v : Word), (i, v) ∈ [(Instr.phi, s.ip), (.phw, s.w)] →
      ∃ t, exec i s = .next t ∧ Pushed16 s t k v ∧ Completed s t 1 ∧ OnlyChanges [k.field, .pc, .pre] s t) ∧
    (∀ (i : Instr) (f : Field), (i, f) ∈ [(Instr.pli, Field.ip), (.plw, .w)] →
      ∃ t, exec i s = .next t ∧ (if f = .ip then t.ip else t.w) = pulledWord s k ∧
        t.sp k = k.up (k.up (s.sp k)) ∧ Completed s t 1 ∧ OnlyChanges [k.field, f, .pc, .pre] s t ∧ SameMemory s t)
end

