-- ==== Sys2Proof/Laws/Memory.lean ====
section
/-!
SUPPORT. The laws of memory: what a read after a write gives, and that every operation keeps the canonical form.
-/

namespace Sys2Proof.Machine

/-! ### Lists of cells -/

theorem Memory.wfFrom_cons (lo k : Nat) (v : Byte) (m : Memory) :
    Memory.wfFrom lo ((k, v) :: m) = true ↔
      lo ≤ k ∧ k < 65536 ∧ v ≠ blankByte ∧ Memory.wfFrom (k + 1) m = true := by
  simp [Memory.wfFrom, and_assoc]

/-- A lower bound may be lowered. -/
theorem Memory.wfFrom_mono {lo lo' : Nat} {m : Memory} (h : lo' ≤ lo) (hm : Memory.wfFrom lo m = true) :
    Memory.wfFrom lo' m = true := by
  cases m with
  | nil => rfl
  | cons c m =>
    obtain ⟨k, v⟩ := c
    rw [Memory.wfFrom_cons] at hm ⊢
    exact ⟨by omega, hm.2⟩

/-- Nothing is listed below the bound. -/
theorem Memory.read_below {m : Memory} : ∀ {lo a : Nat}, Memory.wfFrom lo m = true → a < lo → m.read a = blankByte := by
  induction m with
  | nil => intros; rfl
  | cons c m ih =>
    obtain ⟨k, v⟩ := c
    intro lo a hm ha
    rw [Memory.wfFrom_cons] at hm
    have hk : ¬ k = a := by omega
    simp only [Memory.read, hk, if_false]
    exact ih hm.2.2.2 (by omega)

/-- A read after a write (R85). -/
theorem Memory.read_write {m : Memory} : ∀ {lo : Nat}, Memory.wfFrom lo m = true → ∀ (a b : Nat) (v : Byte),
    (m.write a v).read b = if b = a then v else m.read b := by
  induction m with
  | nil =>
    intro lo _ a b v
    simp only [Memory.write]
    split_ifs with h1 h2 h3
    · simp [Memory.read, h1]
    · simp [Memory.read]
    · subst h3; simp [Memory.read]
    · have : ¬ a = b := fun h => h3 h.symm
      simp [Memory.read, this]
  | cons c m ih =>
    obtain ⟨k, w⟩ := c
    intro lo hm a b v
    rw [Memory.wfFrom_cons] at hm
    have hlow := fun (x : Nat) (hx : x < k + 1) => Memory.read_below hm.2.2.2 hx
    by_cases hb : b = a
    · subst hb
      simp only [Memory.write, if_true]
      split_ifs with h1 h2 h3 h4
      · have : ¬ k = b := by omega
        simp [Memory.read, this, hlow b (by omega), h2]
      · simp [Memory.read]
      · simp [hlow b (by omega), h4]
      · simp [Memory.read]
      · have : ¬ k = b := by omega
        simp only [Memory.read, this, if_false]
        simpa using ih hm.2.2.2 b b v
    · have hba : ¬ a = b := fun h => hb h.symm
      simp only [Memory.write, hb, if_false]
      split_ifs with h1 h2 h3 h4
      · rfl
      · simp [Memory.read, hba]
      · have : ¬ k = b := by omega
        simp [Memory.read, this]
      · have : ¬ k = b := by omega
        simp [Memory.read, this, hba]
      · simp only [Memory.read]
        split_ifs
        · rfl
        · simpa [hb] using ih hm.2.2.2 a b v

/-- A write keeps the canonical form. -/
theorem Memory.wfFrom_write {m : Memory} : ∀ {lo : Nat}, Memory.wfFrom lo m = true → ∀ {a : Nat} (v : Byte),
    lo ≤ a → a < 65536 → Memory.wfFrom lo (m.write a v) = true := by
  induction m with
  | nil =>
    intro lo _ a v hlo ha
    simp only [Memory.write]
    split_ifs with h
    · rfl
    · rw [Memory.wfFrom_cons]; exact ⟨hlo, ha, h, rfl⟩
  | cons c m ih =>
    obtain ⟨k, w⟩ := c
    intro lo hm a v hlo ha
    have hm' := hm
    rw [Memory.wfFrom_cons] at hm
    simp only [Memory.write]
    split_ifs with h1 h2 h3 h4
    · exact hm'
    · rw [Memory.wfFrom_cons]
      refine ⟨hlo, ha, h2, ?_⟩
      rw [Memory.wfFrom_cons]
      exact ⟨by omega, hm.2⟩
    · exact Memory.wfFrom_mono (by omega) hm.2.2.2
    · rw [Memory.wfFrom_cons]
      refine ⟨hlo, ha, h4, ?_⟩
      rw [h3]
      exact hm.2.2.2
    · rw [Memory.wfFrom_cons]
      exact ⟨hm.1, hm.2.1, hm.2.2.1, ih hm.2.2.2 v (by omega) ha⟩

theorem Memory.wf_write {m : Memory} (h : m.wf = true) {a : Nat} (ha : a < 65536) (v : Byte) :
    (m.write a v).wf = true :=
  Memory.wfFrom_write h v (Nat.zero_le a) ha

/-! ### The state's memory -/

/-- What a byte reads as after one byte is written. -/
theorem State.readByte_writeByte {s : State} (h : s.mem.wf = true) (a b : Word) (v : Byte) :
    (s.writeByte a v).readByte b = if b = a then v else s.readByte b := by
  have := Memory.read_write h a.toNat b.toNat v
  simp only [State.readByte, State.writeByte, this, BitVec.toNat_inj]

theorem State.wf_writeByte {s : State} (h : s.mem.wf = true) (a : Word) (v : Byte) :
    (s.writeByte a v).mem.wf = true :=
  Memory.wf_write h a.isLt v

theorem State.wf_writePair {s : State} (h : s.mem.wf = true) (l : Loc) (v : Word) :
    (s.writePair l v).mem.wf = true :=
  State.wf_writeByte (State.wf_writeByte h _ _) _ _

theorem State.wf_writeOp {s : State} (h : s.mem.wf = true) (b : Bool) (l : Loc) (v : Word) :
    (s.writeOp b l v).mem.wf = true := by
  cases b
  · exact State.wf_writeByte h _ _
  · exact State.wf_writePair h _ _

theorem State.mem_setSp (s : State) (k : StackPtr) (v : Word) : (s.setSp k v).mem = s.mem := by
  cases k <;> rfl

theorem State.wf_push8 {s : State} (h : s.mem.wf = true) (k : StackPtr) (v : Byte) :
    (s.push8 k v).mem.wf = true := by
  rw [State.push8, State.mem_setSp]
  exact State.wf_writeByte h _ _

theorem State.wf_push16 {s : State} (h : s.mem.wf = true) (k : StackPtr) (v : Word) :
    (s.push16 k v).mem.wf = true :=
  State.wf_push8 (State.wf_push8 h _ _) _ _

theorem State.wf_pulled8 {s : State} (h : s.mem.wf = true) (k : StackPtr) : (s.pulled8 k).mem.wf = true := by
  rw [State.pulled8, State.mem_setSp]
  exact h

theorem State.wf_pulled16 {s : State} (h : s.mem.wf = true) (k : StackPtr) : (s.pulled16 k).mem.wf = true :=
  State.wf_pulled8 (State.wf_pulled8 h _) _

theorem State.wf_enter {s : State} (h : s.mem.wf = true) (ret : Word) (b : Bool) (v : Word) :
    (s.enter ret b v).mem.wf = true :=
  State.wf_push8 (State.wf_push16 h _ _) _ _

theorem State.wf_returnFrom {s : State} (h : s.mem.wf = true) (k : StackPtr) : (s.returnFrom k).mem.wf = true :=
  State.wf_pulled16 (State.wf_pulled8 h _) _

theorem State.wf_resetSequence {s : State} (h : s.mem.wf = true) : s.resetSequence.mem.wf = true :=
  State.wf_push8 (State.wf_push8 (State.wf_push8 (s := { s with sk := 0x0102 }) h _ _) _ _) _ _

end Sys2Proof.Machine
end

