-- ==== Sys2Proof/Laws/Ops.lean ====
section
/-!
SUPPORT. For each shared operation that answers, what it answers, said once.
-/

namespace Sys2Proof.Machine

/-- A memory instruction completes exactly when its mode's operand byte has a meaning. -/
theorem State.withMode_next {s t : State} {m : Mode} {body : State → Loc → State} :
    s.withMode m body = .next t ↔
      modeDefined m = true ∧ t = (body (s.past m) (s.loc m)).retire (modeSize m) := by
  unfold State.withMode
  split
  · rename_i h; simp [h, eq_comm]
  · rename_i h; simp [h]

theorem State.withMode_ne_fault {s : State} {m : Mode} {body : State → Loc → State} {r : Fault} :
    s.withMode m body ≠ .fault r := by
  cases r

theorem State.withMode_refused {s : State} {m : Mode} {body : State → Loc → State} {r : Refusal} :
    s.withMode m body = .refused r ↔ modeDefined m = false ∧ r = .ipOperandNonzero := by
  unfold State.withMode
  split
  · rename_i h; simp [h]
  · rename_i h; simp [h, eq_comm]

theorem State.reading_next {s t : State} {m : Mode} {use : State → Word → State} :
    s.reading m use = .next t ↔
      modeDefined m = true ∧ t = (use (s.past m) (s.readOp s.wide (s.loc m))).retire (modeSize m) :=
  State.withMode_next

theorem State.writing_next {s t : State} {m : Mode} {v : Word} :
    s.writing m v = .next t ↔
      modeDefined m = true ∧ t = ((s.past m).writeOp s.wide (s.loc m) v).retire (modeSize m) :=
  State.withMode_next

theorem State.changing_next {s t : State} {m : Mode} {f : Word → Word} {use : State → Word → State} :
    s.changing m f use = .next t ↔
      modeDefined m = true ∧
        t = ((use (s.past m) (s.readOp s.wide (s.loc m))).writeOp s.wide (s.loc m)
          (f (s.readOp s.wide (s.loc m)))).retire (modeSize m) :=
  State.withMode_next

theorem State.immediate_next {s t : State} {imm : Imm} {use : State → Word → State} :
    s.immediate imm use = .next t ↔ t = (use s imm.value).retire (1 + imm.size) := by
  simp [State.immediate, eq_comm]

theorem State.done_next {s t : State} : s.done = .next t ↔ t = s.retire 1 := by
  simp [State.done, eq_comm]

theorem State.prefixed_next {s t : State} {f : PrefixFlags} :
    s.prefixed f = .next t ↔ t = { s with pre := f, pc := s.pc + 1 } := by
  simp [State.prefixed, eq_comm]

theorem State.branch_next {s t : State} {k : Cond} {n : Nat} {disp : Word} :
    s.branch k n disp = .next t ↔ t = s.jump (if k.holds s.p then s.pcNext n + disp else s.pcNext n) := by
  rw [State.branch, Host.Outcome.next.injEq]
  exact eq_comm

theorem State.onlyA_next {s t u : State} :
    s.onlyA u = .next t ↔ (s.pre.oax || s.pre.oay) = false ∧ t = u.retire 1 := by
  unfold State.onlyA
  split
  · rename_i h; simp [h]
  · rename_i h; simp [h, State.done, eq_comm]

theorem State.unassigned_next {s t : State} :
    s.unassigned = .next t ↔
      (s.cfg.unusedOpcode = .nop1 ∧ t = s.retire 1) ∨
        (s.cfg.unusedOpcode = .invTrap ∧ t = s.enter (s.pcNext 1 - 1) false s.cfg.vecInv) := by
  unfold State.unassigned
  cases s.cfg.unusedOpcode <;> simp [State.done, eq_comm]

/-- What taking a trap or an interrupt leaves (R545): the mode, the mask and the pc; P's other flags stay. -/
theorem State.enter_p (s : State) (ret : Word) (b : Bool) (v : Word) :
    (s.enter ret b v).p = { s.p with m := true, i := true, d := false } := rfl

theorem State.enter_pre (s : State) (ret : Word) (b : Bool) (v : Word) : (s.enter ret b v).pre = .clear := rfl

/-- The mode, the mask and decimal mode after reset (R581). -/
theorem State.resetSequence_p (s : State) :
    s.resetSequence.p.m = true ∧ s.resetSequence.p.i = true ∧ s.resetSequence.p.d = false := ⟨rfl, rfl, rfl⟩

end Sys2Proof.Machine
end

