-- ==== Sys2Proof/Laws/PerInstr.lean ====
section
/-!
SUPPORT. A fact of every instruction as syntax, one lemma for each constructor: its encoding has an opcode byte and at
most two operand bytes, unless its mnemonic lacks the addressing mode.
-/

namespace Sys2Proof.Laws.EncodeBytes

/-- The encoding of an instruction is at most three bytes long. -/
def Statement (i : Instr) : Prop := (encode i).length ≤ 3

theorem encode_modeBytes_length (ops : List (ModeKind × Byte)) (m : Mode) : (modeBytes ops m).length ≤ 3 := by
  unfold modeBytes
  split
  · cases m <;> simp [Mode.bytes, wordBytes]
  · simp

theorem encode_imm_length (op : Byte) (imm : Imm) : (op :: imm.bytes).length ≤ 3 := by
  cases imm <;> simp [Imm.bytes, wordBytes]

theorem brk (imm : Byte) : Statement (.brk imm) := Nat.le_of_ble_eq_true rfl
theorem ora (m : Mode) : Statement (.ora m) := encode_modeBytes_length _ m
theorem cop (imm : Byte) : Statement (.cop imm) := Nat.le_of_ble_eq_true rfl
theorem tsb (m : Mode) : Statement (.tsb m) := encode_modeBytes_length _ m
theorem asl (m : Mode) : Statement (.asl m) := encode_modeBytes_length _ m
theorem rmb0 (zp : Byte) : Statement (.rmb0 zp) := Nat.le_of_ble_eq_true rfl
theorem php : Statement .php := Nat.le_of_ble_eq_true rfl
theorem oraImm (imm : Imm) : Statement (.oraImm imm) := encode_imm_length _ imm
theorem aslA : Statement .aslA := Nat.le_of_ble_eq_true rfl
theorem dup : Statement .dup := Nat.le_of_ble_eq_true rfl
theorem bbr0 (zp : Byte) (rel : Byte) : Statement (.bbr0 zp rel) := Nat.le_of_ble_eq_true rfl
theorem bpl (rel : Byte) : Statement (.bpl rel) := Nat.le_of_ble_eq_true rfl
theorem trb (m : Mode) : Statement (.trb m) := encode_modeBytes_length _ m
theorem rmb1 (zp : Byte) : Statement (.rmb1 zp) := Nat.le_of_ble_eq_true rfl
theorem clc : Statement .clc := Nat.le_of_ble_eq_true rfl
theorem incA : Statement .incA := Nat.le_of_ble_eq_true rfl
theorem swp : Statement .swp := Nat.le_of_ble_eq_true rfl
theorem bbr1 (zp : Byte) (rel : Byte) : Statement (.bbr1 zp rel) := Nat.le_of_ble_eq_true rfl
theorem jsr (abs : Word) : Statement (.jsr abs) := Nat.le_of_ble_eq_true rfl
theorem and (m : Mode) : Statement (.and m) := encode_modeBytes_length _ m
theorem adj (imm : Byte) : Statement (.adj imm) := Nat.le_of_ble_eq_true rfl
theorem bit (m : Mode) : Statement (.bit m) := encode_modeBytes_length _ m
theorem rol (m : Mode) : Statement (.rol m) := encode_modeBytes_length _ m
theorem rmb2 (zp : Byte) : Statement (.rmb2 zp) := Nat.le_of_ble_eq_true rfl
theorem plp : Statement .plp := Nat.le_of_ble_eq_true rfl
theorem andImm (imm : Imm) : Statement (.andImm imm) := encode_imm_length _ imm
theorem rolA : Statement .rolA := Nat.le_of_ble_eq_true rfl
theorem rot : Statement .rot := Nat.le_of_ble_eq_true rfl
theorem bbr2 (zp : Byte) (rel : Byte) : Statement (.bbr2 zp rel) := Nat.le_of_ble_eq_true rfl
theorem bmi (rel : Byte) : Statement (.bmi rel) := Nat.le_of_ble_eq_true rfl
theorem rmb3 (zp : Byte) : Statement (.rmb3 zp) := Nat.le_of_ble_eq_true rfl
theorem sec : Statement .sec := Nat.le_of_ble_eq_true rfl
theorem decA : Statement .decA := Nat.le_of_ble_eq_true rfl
theorem nxt : Statement .nxt := Nat.le_of_ble_eq_true rfl
theorem bbr3 (zp : Byte) (rel : Byte) : Statement (.bbr3 zp rel) := Nat.le_of_ble_eq_true rfl
theorem rti : Statement .rti := Nat.le_of_ble_eq_true rfl
theorem eor (m : Mode) : Statement (.eor m) := encode_modeBytes_length _ m
theorem xma (sp : Byte) : Statement (.xma sp) := Nat.le_of_ble_eq_true rfl
theorem mov (imm : Byte) : Statement (.mov imm) := Nat.le_of_ble_eq_true rfl
theorem lsr (m : Mode) : Statement (.lsr m) := encode_modeBytes_length _ m
theorem rmb4 (zp : Byte) : Statement (.rmb4 zp) := Nat.le_of_ble_eq_true rfl
theorem pha : Statement .pha := Nat.le_of_ble_eq_true rfl
theorem eorImm (imm : Imm) : Statement (.eorImm imm) := encode_imm_length _ imm
theorem lsrA : Statement .lsrA := Nat.le_of_ble_eq_true rfl
theorem phi : Statement .phi := Nat.le_of_ble_eq_true rfl
theorem jmpAbs (abs : Word) : Statement (.jmpAbs abs) := Nat.le_of_ble_eq_true rfl
theorem bbr4 (zp : Byte) (rel : Byte) : Statement (.bbr4 zp rel) := Nat.le_of_ble_eq_true rfl
theorem bvc (rel : Byte) : Statement (.bvc rel) := Nat.le_of_ble_eq_true rfl
theorem pshImm (imm : Word) : Statement (.pshImm imm) := Nat.le_of_ble_eq_true rfl
theorem rmb5 (zp : Byte) : Statement (.rmb5 zp) := Nat.le_of_ble_eq_true rfl
theorem cli : Statement .cli := Nat.le_of_ble_eq_true rfl
theorem phy : Statement .phy := Nat.le_of_ble_eq_true rfl
theorem ini : Statement .ini := Nat.le_of_ble_eq_true rfl
theorem phr (rel : Word) : Statement (.phr rel) := Nat.le_of_ble_eq_true rfl
theorem bbr5 (zp : Byte) (rel : Byte) : Statement (.bbr5 zp rel) := Nat.le_of_ble_eq_true rfl
theorem rts : Statement .rts := Nat.le_of_ble_eq_true rfl
theorem adc (m : Mode) : Statement (.adc m) := encode_modeBytes_length _ m
theorem add (ip : Byte) : Statement (.add ip) := Nat.le_of_ble_eq_true rfl
theorem stz (m : Mode) : Statement (.stz m) := encode_modeBytes_length _ m
theorem ror (m : Mode) : Statement (.ror m) := encode_modeBytes_length _ m
theorem rmb6 (zp : Byte) : Statement (.rmb6 zp) := Nat.le_of_ble_eq_true rfl
theorem pla : Statement .pla := Nat.le_of_ble_eq_true rfl
theorem adcImm (imm : Imm) : Statement (.adcImm imm) := encode_imm_length _ imm
theorem rorA : Statement .rorA := Nat.le_of_ble_eq_true rfl
theorem pli : Statement .pli := Nat.le_of_ble_eq_true rfl
theorem jmpInd (abs : Word) : Statement (.jmpInd abs) := Nat.le_of_ble_eq_true rfl
theorem unassigned6F : Statement .unassigned6F := Nat.le_of_ble_eq_true rfl
theorem bbr6 (zp : Byte) (rel : Byte) : Statement (.bbr6 zp rel) := Nat.le_of_ble_eq_true rfl
theorem bvs (rel : Byte) : Statement (.bvs rel) := Nat.le_of_ble_eq_true rfl
theorem rmb7 (zp : Byte) : Statement (.rmb7 zp) := Nat.le_of_ble_eq_true rfl
theorem sei : Statement .sei := Nat.le_of_ble_eq_true rfl
theorem ply : Statement .ply := Nat.le_of_ble_eq_true rfl
theorem ent : Statement .ent := Nat.le_of_ble_eq_true rfl
theorem jmpIndX (abs : Word) : Statement (.jmpIndX abs) := Nat.le_of_ble_eq_true rfl
theorem bbr7 (zp : Byte) (rel : Byte) : Statement (.bbr7 zp rel) := Nat.le_of_ble_eq_true rfl
theorem bra (rel : Byte) : Statement (.bra rel) := Nat.le_of_ble_eq_true rfl
theorem sta (m : Mode) : Statement (.sta m) := encode_modeBytes_length _ m
theorem unassigned82 : Statement .unassigned82 := Nat.le_of_ble_eq_true rfl
theorem sty (m : Mode) : Statement (.sty m) := encode_modeBytes_length _ m
theorem stx (m : Mode) : Statement (.stx m) := encode_modeBytes_length _ m
theorem smb0 (zp : Byte) : Statement (.smb0 zp) := Nat.le_of_ble_eq_true rfl
theorem dey : Statement .dey := Nat.le_of_ble_eq_true rfl
theorem bitImm (imm : Imm) : Statement (.bitImm imm) := encode_imm_length _ imm
theorem txa : Statement .txa := Nat.le_of_ble_eq_true rfl
theorem osx : Statement .osx := Nat.le_of_ble_eq_true rfl
theorem unassigned8F : Statement .unassigned8F := Nat.le_of_ble_eq_true rfl
theorem bbs0 (zp : Byte) (rel : Byte) : Statement (.bbs0 zp rel) := Nat.le_of_ble_eq_true rfl
theorem bcc (rel : Byte) : Statement (.bcc rel) := Nat.le_of_ble_eq_true rfl
theorem smb1 (zp : Byte) : Statement (.smb1 zp) := Nat.le_of_ble_eq_true rfl
theorem tya : Statement .tya := Nat.le_of_ble_eq_true rfl
theorem txs : Statement .txs := Nat.le_of_ble_eq_true rfl
theorem ind : Statement .ind := Nat.le_of_ble_eq_true rfl
theorem bbs1 (zp : Byte) (rel : Byte) : Statement (.bbs1 zp rel) := Nat.le_of_ble_eq_true rfl
theorem ldyImm (imm : Imm) : Statement (.ldyImm imm) := encode_imm_length _ imm
theorem lda (m : Mode) : Statement (.lda m) := encode_modeBytes_length _ m
theorem ldxImm (imm : Imm) : Statement (.ldxImm imm) := encode_imm_length _ imm
theorem ldy (m : Mode) : Statement (.ldy m) := encode_modeBytes_length _ m
theorem ldx (m : Mode) : Statement (.ldx m) := encode_modeBytes_length _ m
theorem smb2 (zp : Byte) : Statement (.smb2 zp) := Nat.le_of_ble_eq_true rfl
theorem tay : Statement .tay := Nat.le_of_ble_eq_true rfl
theorem ldaImm (imm : Imm) : Statement (.ldaImm imm) := encode_imm_length _ imm
theorem tax : Statement .tax := Nat.le_of_ble_eq_true rfl
theorem siz : Statement .siz := Nat.le_of_ble_eq_true rfl
theorem unassignedAF : Statement .unassignedAF := Nat.le_of_ble_eq_true rfl
theorem bbs2 (zp : Byte) (rel : Byte) : Statement (.bbs2 zp rel) := Nat.le_of_ble_eq_true rfl
theorem bcs (rel : Byte) : Statement (.bcs rel) := Nat.le_of_ble_eq_true rfl
theorem smb3 (zp : Byte) : Statement (.smb3 zp) := Nat.le_of_ble_eq_true rfl
theorem clv : Statement .clv := Nat.le_of_ble_eq_true rfl
theorem tsx : Statement .tsx := Nat.le_of_ble_eq_true rfl
theorem isz : Statement .isz := Nat.le_of_ble_eq_true rfl
theorem bbs3 (zp : Byte) (rel : Byte) : Statement (.bbs3 zp rel) := Nat.le_of_ble_eq_true rfl
theorem cpyImm (imm : Imm) : Statement (.cpyImm imm) := encode_imm_length _ imm
theorem cmp (m : Mode) : Statement (.cmp m) := encode_modeBytes_length _ m
theorem cpy (m : Mode) : Statement (.cpy m) := encode_modeBytes_length _ m
theorem dec (m : Mode) : Statement (.dec m) := encode_modeBytes_length _ m
theorem smb4 (zp : Byte) : Statement (.smb4 zp) := Nat.le_of_ble_eq_true rfl
theorem iny : Statement .iny := Nat.le_of_ble_eq_true rfl
theorem cmpImm (imm : Imm) : Statement (.cmpImm imm) := encode_imm_length _ imm
theorem dex : Statement .dex := Nat.le_of_ble_eq_true rfl
theorem wai : Statement .wai := Nat.le_of_ble_eq_true rfl
theorem bbs4 (zp : Byte) (rel : Byte) : Statement (.bbs4 zp rel) := Nat.le_of_ble_eq_true rfl
theorem bne (rel : Byte) : Statement (.bne rel) := Nat.le_of_ble_eq_true rfl
theorem psh (m : Mode) : Statement (.psh m) := encode_modeBytes_length _ m
theorem smb5 (zp : Byte) : Statement (.smb5 zp) := Nat.le_of_ble_eq_true rfl
theorem cld : Statement .cld := Nat.le_of_ble_eq_true rfl
theorem phx : Statement .phx := Nat.le_of_ble_eq_true rfl
theorem stp : Statement .stp := Nat.le_of_ble_eq_true rfl
theorem bbs5 (zp : Byte) (rel : Byte) : Statement (.bbs5 zp rel) := Nat.le_of_ble_eq_true rfl
theorem cpxImm (imm : Imm) : Statement (.cpxImm imm) := encode_imm_length _ imm
theorem sbc (m : Mode) : Statement (.sbc m) := encode_modeBytes_length _ m
theorem cpx (m : Mode) : Statement (.cpx m) := encode_modeBytes_length _ m
theorem inc (m : Mode) : Statement (.inc m) := encode_modeBytes_length _ m
theorem smb6 (zp : Byte) : Statement (.smb6 zp) := Nat.le_of_ble_eq_true rfl
theorem inx : Statement .inx := Nat.le_of_ble_eq_true rfl
theorem sbcImm (imm : Imm) : Statement (.sbcImm imm) := encode_imm_length _ imm
theorem nop : Statement .nop := Nat.le_of_ble_eq_true rfl
theorem oax : Statement .oax := Nat.le_of_ble_eq_true rfl
theorem sub (ip : Byte) : Statement (.sub ip) := Nat.le_of_ble_eq_true rfl
theorem bbs6 (zp : Byte) (rel : Byte) : Statement (.bbs6 zp rel) := Nat.le_of_ble_eq_true rfl
theorem beq (rel : Byte) : Statement (.beq rel) := Nat.le_of_ble_eq_true rfl
theorem pul (m : Mode) : Statement (.pul m) := encode_modeBytes_length _ m
theorem smb7 (zp : Byte) : Statement (.smb7 zp) := Nat.le_of_ble_eq_true rfl
theorem sed : Statement .sed := Nat.le_of_ble_eq_true rfl
theorem plx : Statement .plx := Nat.le_of_ble_eq_true rfl
theorem oay : Statement .oay := Nat.le_of_ble_eq_true rfl
theorem bbs7 (zp : Byte) (rel : Byte) : Statement (.bbs7 zp rel) := Nat.le_of_ble_eq_true rfl
theorem tai : Statement .tai := Nat.le_of_ble_eq_true rfl
theorem tia : Statement .tia := Nat.le_of_ble_eq_true rfl
theorem xai : Statement .xai := Nat.le_of_ble_eq_true rfl
theorem bsw : Statement .bsw := Nat.le_of_ble_eq_true rfl
theorem rev : Statement .rev := Nat.le_of_ble_eq_true rfl
theorem nxtItc : Statement .nxtItc := Nat.le_of_ble_eq_true rfl
theorem entItc : Statement .entItc := Nat.le_of_ble_eq_true rfl
theorem phw : Statement .phw := Nat.le_of_ble_eq_true rfl
theorem inw : Statement .inw := Nat.le_of_ble_eq_true rfl
theorem plw : Statement .plw := Nat.le_of_ble_eq_true rfl
theorem asr : Statement .asr := Nat.le_of_ble_eq_true rfl
theorem asrW : Statement .asrW := Nat.le_of_ble_eq_true rfl
theorem aslAV : Statement .aslAV := Nat.le_of_ble_eq_true rfl
theorem rolAV : Statement .rolAV := Nat.le_of_ble_eq_true rfl
theorem incAC : Statement .incAC := Nat.le_of_ble_eq_true rfl
theorem decAC : Statement .decAC := Nat.le_of_ble_eq_true rfl
theorem jrl (rel : Word) : Statement (.jrl rel) := Nat.le_of_ble_eq_true rfl
theorem jmi (rel : Word) : Statement (.jmi rel) := Nat.le_of_ble_eq_true rfl
theorem jpl (rel : Word) : Statement (.jpl rel) := Nat.le_of_ble_eq_true rfl
theorem jvs (rel : Word) : Statement (.jvs rel) := Nat.le_of_ble_eq_true rfl
theorem jvc (rel : Word) : Statement (.jvc rel) := Nat.le_of_ble_eq_true rfl
theorem jeq (rel : Word) : Statement (.jeq rel) := Nat.le_of_ble_eq_true rfl
theorem jne (rel : Word) : Statement (.jne rel) := Nat.le_of_ble_eq_true rfl
theorem jcs (rel : Word) : Statement (.jcs rel) := Nat.le_of_ble_eq_true rfl
theorem jcc (rel : Word) : Statement (.jcc rel) := Nat.le_of_ble_eq_true rfl
theorem ble (rel : Byte) : Statement (.ble rel) := Nat.le_of_ble_eq_true rfl
theorem jle (rel : Word) : Statement (.jle rel) := Nat.le_of_ble_eq_true rfl
theorem bgt (rel : Byte) : Statement (.bgt rel) := Nat.le_of_ble_eq_true rfl
theorem jgt (rel : Word) : Statement (.jgt rel) := Nat.le_of_ble_eq_true rfl
theorem blt (rel : Byte) : Statement (.blt rel) := Nat.le_of_ble_eq_true rfl
theorem jlt (rel : Word) : Statement (.jlt rel) := Nat.le_of_ble_eq_true rfl
theorem bge (rel : Byte) : Statement (.bge rel) := Nat.le_of_ble_eq_true rfl
theorem jge (rel : Word) : Statement (.jge rel) := Nat.le_of_ble_eq_true rfl
theorem bhs (rel : Byte) : Statement (.bhs rel) := Nat.le_of_ble_eq_true rfl
theorem jhs (rel : Word) : Statement (.jhs rel) := Nat.le_of_ble_eq_true rfl
theorem blo (rel : Byte) : Statement (.blo rel) := Nat.le_of_ble_eq_true rfl
theorem jlo (rel : Word) : Statement (.jlo rel) := Nat.le_of_ble_eq_true rfl
theorem bhi (rel : Byte) : Statement (.bhi rel) := Nat.le_of_ble_eq_true rfl
theorem jhi (rel : Word) : Statement (.jhi rel) := Nat.le_of_ble_eq_true rfl
theorem bls (rel : Byte) : Statement (.bls rel) := Nat.le_of_ble_eq_true rfl
theorem jls (rel : Word) : Statement (.jls rel) := Nat.le_of_ble_eq_true rfl
theorem ldsImm (imm : Imm) : Statement (.ldsImm imm) := encode_imm_length _ imm
theorem lds (m : Mode) : Statement (.lds m) := encode_modeBytes_length _ m
theorem sts (m : Mode) : Statement (.sts m) := encode_modeBytes_length _ m
theorem cpsImm (imm : Imm) : Statement (.cpsImm imm) := encode_imm_length _ imm
theorem cps (m : Mode) : Statement (.cps m) := encode_modeBytes_length _ m
theorem tas : Statement .tas := Nat.le_of_ble_eq_true rfl
theorem tsa : Statement .tsa := Nat.le_of_ble_eq_true rfl
theorem phs : Statement .phs := Nat.le_of_ble_eq_true rfl
theorem pls : Statement .pls := Nat.le_of_ble_eq_true rfl
theorem ins : Statement .ins := Nat.le_of_ble_eq_true rfl
theorem des : Statement .des := Nat.le_of_ble_eq_true rfl

end Sys2Proof.Laws.EncodeBytes
end

