-- ==== Sys2Proof/Laws/State.lean ====
section
/-!
SUPPORT. One lemma for each field and each update of the state, so that no proof unfolds a record update.
-/

namespace Sys2Proof.Machine

/-! ### setP -/

@[simp] theorem State.setP_a (s : State) (p : Psw) : (s.setP p).a = s.a := rfl
@[simp] theorem State.setP_x (s : State) (p : Psw) : (s.setP p).x = s.x := rfl
@[simp] theorem State.setP_y (s : State) (p : Psw) : (s.setP p).y = s.y := rfl
@[simp] theorem State.setP_sk (s : State) (p : Psw) : (s.setP p).sk = s.sk := rfl
@[simp] theorem State.setP_su (s : State) (p : Psw) : (s.setP p).su = s.su := rfl
@[simp] theorem State.setP_ip (s : State) (p : Psw) : (s.setP p).ip = s.ip := rfl
@[simp] theorem State.setP_w (s : State) (p : Psw) : (s.setP p).w = s.w := rfl
@[simp] theorem State.setP_pc (s : State) (p : Psw) : (s.setP p).pc = s.pc := rfl
@[simp] theorem State.setP_p (s : State) (p : Psw) : (s.setP p).p = p := rfl
@[simp] theorem State.setP_pre (s : State) (p : Psw) : (s.setP p).pre = s.pre := rfl
@[simp] theorem State.setP_run (s : State) (p : Psw) : (s.setP p).run = s.run := rfl
@[simp] theorem State.setP_soLatch (s : State) (p : Psw) : (s.setP p).soLatch = s.soLatch := rfl
@[simp] theorem State.setP_mem (s : State) (p : Psw) : (s.setP p).mem = s.mem := rfl
@[simp] theorem State.setP_inputs (s : State) (p : Psw) : (s.setP p).inputs = s.inputs := rfl
@[simp] theorem State.setP_free (s : State) (p : Psw) : (s.setP p).free = s.free := rfl
@[simp] theorem State.setP_cfg (s : State) (p : Psw) : (s.setP p).cfg = s.cfg := rfl

/-! ### writeByte -/

@[simp] theorem State.writeByte_a (s : State) (a : Word) (v : Byte) : (s.writeByte a v).a = s.a := rfl
@[simp] theorem State.writeByte_x (s : State) (a : Word) (v : Byte) : (s.writeByte a v).x = s.x := rfl
@[simp] theorem State.writeByte_y (s : State) (a : Word) (v : Byte) : (s.writeByte a v).y = s.y := rfl
@[simp] theorem State.writeByte_sk (s : State) (a : Word) (v : Byte) : (s.writeByte a v).sk = s.sk := rfl
@[simp] theorem State.writeByte_su (s : State) (a : Word) (v : Byte) : (s.writeByte a v).su = s.su := rfl
@[simp] theorem State.writeByte_ip (s : State) (a : Word) (v : Byte) : (s.writeByte a v).ip = s.ip := rfl
@[simp] theorem State.writeByte_w (s : State) (a : Word) (v : Byte) : (s.writeByte a v).w = s.w := rfl
@[simp] theorem State.writeByte_pc (s : State) (a : Word) (v : Byte) : (s.writeByte a v).pc = s.pc := rfl
@[simp] theorem State.writeByte_p (s : State) (a : Word) (v : Byte) : (s.writeByte a v).p = s.p := rfl
@[simp] theorem State.writeByte_pre (s : State) (a : Word) (v : Byte) : (s.writeByte a v).pre = s.pre := rfl
@[simp] theorem State.writeByte_run (s : State) (a : Word) (v : Byte) : (s.writeByte a v).run = s.run := rfl
@[simp] theorem State.writeByte_soLatch (s : State) (a : Word) (v : Byte) : (s.writeByte a v).soLatch = s.soLatch := rfl
@[simp] theorem State.writeByte_mem (s : State) (a : Word) (v : Byte) : (s.writeByte a v).mem = s.mem.write a.toNat v := rfl
@[simp] theorem State.writeByte_inputs (s : State) (a : Word) (v : Byte) : (s.writeByte a v).inputs = s.inputs := rfl
@[simp] theorem State.writeByte_free (s : State) (a : Word) (v : Byte) : (s.writeByte a v).free = s.free := rfl
@[simp] theorem State.writeByte_cfg (s : State) (a : Word) (v : Byte) : (s.writeByte a v).cfg = s.cfg := rfl

/-! ### drawn -/

@[simp] theorem State.drawn_a (s : State) (k : Nat) : (s.drawn k).a = s.a := rfl
@[simp] theorem State.drawn_x (s : State) (k : Nat) : (s.drawn k).x = s.x := rfl
@[simp] theorem State.drawn_y (s : State) (k : Nat) : (s.drawn k).y = s.y := rfl
@[simp] theorem State.drawn_sk (s : State) (k : Nat) : (s.drawn k).sk = s.sk := rfl
@[simp] theorem State.drawn_su (s : State) (k : Nat) : (s.drawn k).su = s.su := rfl
@[simp] theorem State.drawn_ip (s : State) (k : Nat) : (s.drawn k).ip = s.ip := rfl
@[simp] theorem State.drawn_w (s : State) (k : Nat) : (s.drawn k).w = s.w := rfl
@[simp] theorem State.drawn_pc (s : State) (k : Nat) : (s.drawn k).pc = s.pc := rfl
@[simp] theorem State.drawn_p (s : State) (k : Nat) : (s.drawn k).p = s.p := rfl
@[simp] theorem State.drawn_pre (s : State) (k : Nat) : (s.drawn k).pre = s.pre := rfl
@[simp] theorem State.drawn_run (s : State) (k : Nat) : (s.drawn k).run = s.run := rfl
@[simp] theorem State.drawn_soLatch (s : State) (k : Nat) : (s.drawn k).soLatch = s.soLatch := rfl
@[simp] theorem State.drawn_mem (s : State) (k : Nat) : (s.drawn k).mem = s.mem := rfl
@[simp] theorem State.drawn_inputs (s : State) (k : Nat) : (s.drawn k).inputs = s.inputs := rfl
@[simp] theorem State.drawn_free (s : State) (k : Nat) : (s.drawn k).free = s.free + k := rfl
@[simp] theorem State.drawn_cfg (s : State) (k : Nat) : (s.drawn k).cfg = s.cfg := rfl

/-! ### retire -/

@[simp] theorem State.retire_a (s : State) (n : Nat) : (s.retire n).a = s.a := rfl
@[simp] theorem State.retire_x (s : State) (n : Nat) : (s.retire n).x = s.x := rfl
@[simp] theorem State.retire_y (s : State) (n : Nat) : (s.retire n).y = s.y := rfl
@[simp] theorem State.retire_sk (s : State) (n : Nat) : (s.retire n).sk = s.sk := rfl
@[simp] theorem State.retire_su (s : State) (n : Nat) : (s.retire n).su = s.su := rfl
@[simp] theorem State.retire_ip (s : State) (n : Nat) : (s.retire n).ip = s.ip := rfl
@[simp] theorem State.retire_w (s : State) (n : Nat) : (s.retire n).w = s.w := rfl
@[simp] theorem State.retire_pc (s : State) (n : Nat) : (s.retire n).pc = s.pc + BitVec.ofNat 16 n := rfl
@[simp] theorem State.retire_p (s : State) (n : Nat) : (s.retire n).p = s.p := rfl
@[simp] theorem State.retire_pre (s : State) (n : Nat) : (s.retire n).pre = .clear := rfl
@[simp] theorem State.retire_run (s : State) (n : Nat) : (s.retire n).run = s.run := rfl
@[simp] theorem State.retire_soLatch (s : State) (n : Nat) : (s.retire n).soLatch = s.soLatch := rfl
@[simp] theorem State.retire_mem (s : State) (n : Nat) : (s.retire n).mem = s.mem := rfl
@[simp] theorem State.retire_inputs (s : State) (n : Nat) : (s.retire n).inputs = s.inputs := rfl
@[simp] theorem State.retire_free (s : State) (n : Nat) : (s.retire n).free = s.free := rfl
@[simp] theorem State.retire_cfg (s : State) (n : Nat) : (s.retire n).cfg = s.cfg := rfl

/-! ### jump -/

@[simp] theorem State.jump_a (s : State) (t : Word) : (s.jump t).a = s.a := rfl
@[simp] theorem State.jump_x (s : State) (t : Word) : (s.jump t).x = s.x := rfl
@[simp] theorem State.jump_y (s : State) (t : Word) : (s.jump t).y = s.y := rfl
@[simp] theorem State.jump_sk (s : State) (t : Word) : (s.jump t).sk = s.sk := rfl
@[simp] theorem State.jump_su (s : State) (t : Word) : (s.jump t).su = s.su := rfl
@[simp] theorem State.jump_ip (s : State) (t : Word) : (s.jump t).ip = s.ip := rfl
@[simp] theorem State.jump_w (s : State) (t : Word) : (s.jump t).w = s.w := rfl
@[simp] theorem State.jump_pc (s : State) (t : Word) : (s.jump t).pc = t := rfl
@[simp] theorem State.jump_p (s : State) (t : Word) : (s.jump t).p = s.p := rfl
@[simp] theorem State.jump_pre (s : State) (t : Word) : (s.jump t).pre = .clear := rfl
@[simp] theorem State.jump_run (s : State) (t : Word) : (s.jump t).run = s.run := rfl
@[simp] theorem State.jump_soLatch (s : State) (t : Word) : (s.jump t).soLatch = s.soLatch := rfl
@[simp] theorem State.jump_mem (s : State) (t : Word) : (s.jump t).mem = s.mem := rfl
@[simp] theorem State.jump_inputs (s : State) (t : Word) : (s.jump t).inputs = s.inputs := rfl
@[simp] theorem State.jump_free (s : State) (t : Word) : (s.jump t).free = s.free := rfl
@[simp] theorem State.jump_cfg (s : State) (t : Word) : (s.jump t).cfg = s.cfg := rfl

/-! ### setNZ -/

@[simp] theorem State.setNZ_a (s : State) (v : Word) : (s.setNZ v).a = s.a := rfl
@[simp] theorem State.setNZ_x (s : State) (v : Word) : (s.setNZ v).x = s.x := rfl
@[simp] theorem State.setNZ_y (s : State) (v : Word) : (s.setNZ v).y = s.y := rfl
@[simp] theorem State.setNZ_sk (s : State) (v : Word) : (s.setNZ v).sk = s.sk := rfl
@[simp] theorem State.setNZ_su (s : State) (v : Word) : (s.setNZ v).su = s.su := rfl
@[simp] theorem State.setNZ_ip (s : State) (v : Word) : (s.setNZ v).ip = s.ip := rfl
@[simp] theorem State.setNZ_w (s : State) (v : Word) : (s.setNZ v).w = s.w := rfl
@[simp] theorem State.setNZ_pc (s : State) (v : Word) : (s.setNZ v).pc = s.pc := rfl
@[simp] theorem State.setNZ_p (s : State) (v : Word) : (s.setNZ v).p = s.p.setNZ s.wide v := rfl
@[simp] theorem State.setNZ_pre (s : State) (v : Word) : (s.setNZ v).pre = s.pre := rfl
@[simp] theorem State.setNZ_run (s : State) (v : Word) : (s.setNZ v).run = s.run := rfl
@[simp] theorem State.setNZ_soLatch (s : State) (v : Word) : (s.setNZ v).soLatch = s.soLatch := rfl
@[simp] theorem State.setNZ_mem (s : State) (v : Word) : (s.setNZ v).mem = s.mem := rfl
@[simp] theorem State.setNZ_inputs (s : State) (v : Word) : (s.setNZ v).inputs = s.inputs := rfl
@[simp] theorem State.setNZ_free (s : State) (v : Word) : (s.setNZ v).free = s.free := rfl
@[simp] theorem State.setNZ_cfg (s : State) (v : Word) : (s.setNZ v).cfg = s.cfg := rfl

/-! ### freeNZ -/

@[simp] theorem State.freeNZ_a (s : State) : (s.freeNZ).a = s.a := rfl
@[simp] theorem State.freeNZ_x (s : State) : (s.freeNZ).x = s.x := rfl
@[simp] theorem State.freeNZ_y (s : State) : (s.freeNZ).y = s.y := rfl
@[simp] theorem State.freeNZ_sk (s : State) : (s.freeNZ).sk = s.sk := rfl
@[simp] theorem State.freeNZ_su (s : State) : (s.freeNZ).su = s.su := rfl
@[simp] theorem State.freeNZ_ip (s : State) : (s.freeNZ).ip = s.ip := rfl
@[simp] theorem State.freeNZ_w (s : State) : (s.freeNZ).w = s.w := rfl
@[simp] theorem State.freeNZ_pc (s : State) : (s.freeNZ).pc = s.pc := rfl
@[simp] theorem State.freeNZ_p (s : State) : (s.freeNZ).p = { s.p with n := s.freeBit 0, z := s.freeBit 1 } := rfl
@[simp] theorem State.freeNZ_pre (s : State) : (s.freeNZ).pre = s.pre := rfl
@[simp] theorem State.freeNZ_run (s : State) : (s.freeNZ).run = s.run := rfl
@[simp] theorem State.freeNZ_soLatch (s : State) : (s.freeNZ).soLatch = s.soLatch := rfl
@[simp] theorem State.freeNZ_mem (s : State) : (s.freeNZ).mem = s.mem := rfl
@[simp] theorem State.freeNZ_inputs (s : State) : (s.freeNZ).inputs = s.inputs := rfl
@[simp] theorem State.freeNZ_free (s : State) : (s.freeNZ).free = s.free + 2 := rfl
@[simp] theorem State.freeNZ_cfg (s : State) : (s.freeNZ).cfg = s.cfg := rfl

/-! ### setC -/

@[simp] theorem State.setC_a (s : State) (c : Bool) : (s.setC c).a = s.a := rfl
@[simp] theorem State.setC_x (s : State) (c : Bool) : (s.setC c).x = s.x := rfl
@[simp] theorem State.setC_y (s : State) (c : Bool) : (s.setC c).y = s.y := rfl
@[simp] theorem State.setC_sk (s : State) (c : Bool) : (s.setC c).sk = s.sk := rfl
@[simp] theorem State.setC_su (s : State) (c : Bool) : (s.setC c).su = s.su := rfl
@[simp] theorem State.setC_ip (s : State) (c : Bool) : (s.setC c).ip = s.ip := rfl
@[simp] theorem State.setC_w (s : State) (c : Bool) : (s.setC c).w = s.w := rfl
@[simp] theorem State.setC_pc (s : State) (c : Bool) : (s.setC c).pc = s.pc := rfl
@[simp] theorem State.setC_p (s : State) (c : Bool) : (s.setC c).p = { s.p with c := c } := rfl
@[simp] theorem State.setC_pre (s : State) (c : Bool) : (s.setC c).pre = s.pre := rfl
@[simp] theorem State.setC_run (s : State) (c : Bool) : (s.setC c).run = s.run := rfl
@[simp] theorem State.setC_soLatch (s : State) (c : Bool) : (s.setC c).soLatch = s.soLatch := rfl
@[simp] theorem State.setC_mem (s : State) (c : Bool) : (s.setC c).mem = s.mem := rfl
@[simp] theorem State.setC_inputs (s : State) (c : Bool) : (s.setC c).inputs = s.inputs := rfl
@[simp] theorem State.setC_free (s : State) (c : Bool) : (s.setC c).free = s.free := rfl
@[simp] theorem State.setC_cfg (s : State) (c : Bool) : (s.setC c).cfg = s.cfg := rfl

/-! ### setCV -/

@[simp] theorem State.setCV_a (s : State) (c v : Bool) : (s.setCV c v).a = s.a := rfl
@[simp] theorem State.setCV_x (s : State) (c v : Bool) : (s.setCV c v).x = s.x := rfl
@[simp] theorem State.setCV_y (s : State) (c v : Bool) : (s.setCV c v).y = s.y := rfl
@[simp] theorem State.setCV_sk (s : State) (c v : Bool) : (s.setCV c v).sk = s.sk := rfl
@[simp] theorem State.setCV_su (s : State) (c v : Bool) : (s.setCV c v).su = s.su := rfl
@[simp] theorem State.setCV_ip (s : State) (c v : Bool) : (s.setCV c v).ip = s.ip := rfl
@[simp] theorem State.setCV_w (s : State) (c v : Bool) : (s.setCV c v).w = s.w := rfl
@[simp] theorem State.setCV_pc (s : State) (c v : Bool) : (s.setCV c v).pc = s.pc := rfl
@[simp] theorem State.setCV_p (s : State) (c v : Bool) : (s.setCV c v).p = { s.p with c := c, v := v } := rfl
@[simp] theorem State.setCV_pre (s : State) (c v : Bool) : (s.setCV c v).pre = s.pre := rfl
@[simp] theorem State.setCV_run (s : State) (c v : Bool) : (s.setCV c v).run = s.run := rfl
@[simp] theorem State.setCV_soLatch (s : State) (c v : Bool) : (s.setCV c v).soLatch = s.soLatch := rfl
@[simp] theorem State.setCV_mem (s : State) (c v : Bool) : (s.setCV c v).mem = s.mem := rfl
@[simp] theorem State.setCV_inputs (s : State) (c v : Bool) : (s.setCV c v).inputs = s.inputs := rfl
@[simp] theorem State.setCV_free (s : State) (c v : Bool) : (s.setCV c v).free = s.free := rfl
@[simp] theorem State.setCV_cfg (s : State) (c v : Bool) : (s.setCV c v).cfg = s.cfg := rfl

/-! ### sampled -/

@[simp] theorem State.sampled_a (s : State) : (s.sampled).a = s.a := rfl
@[simp] theorem State.sampled_x (s : State) : (s.sampled).x = s.x := rfl
@[simp] theorem State.sampled_y (s : State) : (s.sampled).y = s.y := rfl
@[simp] theorem State.sampled_sk (s : State) : (s.sampled).sk = s.sk := rfl
@[simp] theorem State.sampled_su (s : State) : (s.sampled).su = s.su := rfl
@[simp] theorem State.sampled_ip (s : State) : (s.sampled).ip = s.ip := rfl
@[simp] theorem State.sampled_w (s : State) : (s.sampled).w = s.w := rfl
@[simp] theorem State.sampled_pc (s : State) : (s.sampled).pc = s.pc := rfl
@[simp] theorem State.sampled_p (s : State) : (s.sampled).p = s.p := rfl
@[simp] theorem State.sampled_pre (s : State) : (s.sampled).pre = s.pre := rfl
@[simp] theorem State.sampled_run (s : State) : (s.sampled).run = s.run := rfl
@[simp] theorem State.sampled_soLatch (s : State) : (s.sampled).soLatch = (s.soLatch || s.sample.so) := rfl
@[simp] theorem State.sampled_mem (s : State) : (s.sampled).mem = s.mem := rfl
@[simp] theorem State.sampled_inputs (s : State) : (s.sampled).inputs = s.inputs.tail := rfl
@[simp] theorem State.sampled_free (s : State) : (s.sampled).free = s.free := rfl
@[simp] theorem State.sampled_cfg (s : State) : (s.sampled).cfg = s.cfg := rfl

/-! ### writePair -/

@[simp] theorem State.writePair_a (s : State) (l : Loc) (v : Word) : (s.writePair l v).a = s.a := rfl
@[simp] theorem State.writePair_x (s : State) (l : Loc) (v : Word) : (s.writePair l v).x = s.x := rfl
@[simp] theorem State.writePair_y (s : State) (l : Loc) (v : Word) : (s.writePair l v).y = s.y := rfl
@[simp] theorem State.writePair_sk (s : State) (l : Loc) (v : Word) : (s.writePair l v).sk = s.sk := rfl
@[simp] theorem State.writePair_su (s : State) (l : Loc) (v : Word) : (s.writePair l v).su = s.su := rfl
@[simp] theorem State.writePair_ip (s : State) (l : Loc) (v : Word) : (s.writePair l v).ip = s.ip := rfl
@[simp] theorem State.writePair_w (s : State) (l : Loc) (v : Word) : (s.writePair l v).w = s.w := rfl
@[simp] theorem State.writePair_pc (s : State) (l : Loc) (v : Word) : (s.writePair l v).pc = s.pc := rfl
@[simp] theorem State.writePair_p (s : State) (l : Loc) (v : Word) : (s.writePair l v).p = s.p := rfl
@[simp] theorem State.writePair_pre (s : State) (l : Loc) (v : Word) : (s.writePair l v).pre = s.pre := rfl
@[simp] theorem State.writePair_run (s : State) (l : Loc) (v : Word) : (s.writePair l v).run = s.run := rfl
@[simp] theorem State.writePair_soLatch (s : State) (l : Loc) (v : Word) : (s.writePair l v).soLatch = s.soLatch := rfl
@[simp] theorem State.writePair_mem (s : State) (l : Loc) (v : Word) : (s.writePair l v).mem = (s.mem.write l.first.toNat (loByte v)).write l.second.toNat (hiByte v) := rfl
@[simp] theorem State.writePair_inputs (s : State) (l : Loc) (v : Word) : (s.writePair l v).inputs = s.inputs := rfl
@[simp] theorem State.writePair_free (s : State) (l : Loc) (v : Word) : (s.writePair l v).free = s.free := rfl
@[simp] theorem State.writePair_cfg (s : State) (l : Loc) (v : Word) : (s.writePair l v).cfg = s.cfg := rfl

/-! ### setSys -/

@[simp] theorem State.setSys_a (s : State) (v : Word) : (s.setSys v).a = s.a := by
  unfold State.setSys; split <;> rfl
@[simp] theorem State.setSys_x (s : State) (v : Word) : (s.setSys v).x = s.x := by
  unfold State.setSys; split <;> rfl
@[simp] theorem State.setSys_y (s : State) (v : Word) : (s.setSys v).y = s.y := by
  unfold State.setSys; split <;> rfl
@[simp] theorem State.setSys_ip (s : State) (v : Word) : (s.setSys v).ip = s.ip := by
  unfold State.setSys; split <;> rfl
@[simp] theorem State.setSys_w (s : State) (v : Word) : (s.setSys v).w = s.w := by
  unfold State.setSys; split <;> rfl
@[simp] theorem State.setSys_pc (s : State) (v : Word) : (s.setSys v).pc = s.pc := by
  unfold State.setSys; split <;> rfl
@[simp] theorem State.setSys_p (s : State) (v : Word) : (s.setSys v).p = s.p := by
  unfold State.setSys; split <;> rfl
@[simp] theorem State.setSys_pre (s : State) (v : Word) : (s.setSys v).pre = s.pre := by
  unfold State.setSys; split <;> rfl
@[simp] theorem State.setSys_run (s : State) (v : Word) : (s.setSys v).run = s.run := by
  unfold State.setSys; split <;> rfl
@[simp] theorem State.setSys_soLatch (s : State) (v : Word) : (s.setSys v).soLatch = s.soLatch := by
  unfold State.setSys; split <;> rfl
@[simp] theorem State.setSys_mem (s : State) (v : Word) : (s.setSys v).mem = s.mem := by
  unfold State.setSys; split <;> rfl
@[simp] theorem State.setSys_inputs (s : State) (v : Word) : (s.setSys v).inputs = s.inputs := by
  unfold State.setSys; split <;> rfl
@[simp] theorem State.setSys_free (s : State) (v : Word) : (s.setSys v).free = s.free := by
  unfold State.setSys; split <;> rfl
@[simp] theorem State.setSys_cfg (s : State) (v : Word) : (s.setSys v).cfg = s.cfg := by
  unfold State.setSys; split <;> rfl

/-! ### setTransferSp -/

@[simp] theorem State.setTransferSp_a (s : State) (v : Word) : (s.setTransferSp v).a = s.a := by
  unfold State.setTransferSp; split <;> rfl
@[simp] theorem State.setTransferSp_x (s : State) (v : Word) : (s.setTransferSp v).x = s.x := by
  unfold State.setTransferSp; split <;> rfl
@[simp] theorem State.setTransferSp_y (s : State) (v : Word) : (s.setTransferSp v).y = s.y := by
  unfold State.setTransferSp; split <;> rfl
@[simp] theorem State.setTransferSp_ip (s : State) (v : Word) : (s.setTransferSp v).ip = s.ip := by
  unfold State.setTransferSp; split <;> rfl
@[simp] theorem State.setTransferSp_w (s : State) (v : Word) : (s.setTransferSp v).w = s.w := by
  unfold State.setTransferSp; split <;> rfl
@[simp] theorem State.setTransferSp_pc (s : State) (v : Word) : (s.setTransferSp v).pc = s.pc := by
  unfold State.setTransferSp; split <;> rfl
@[simp] theorem State.setTransferSp_p (s : State) (v : Word) : (s.setTransferSp v).p = s.p := by
  unfold State.setTransferSp; split <;> rfl
@[simp] theorem State.setTransferSp_pre (s : State) (v : Word) : (s.setTransferSp v).pre = s.pre := by
  unfold State.setTransferSp; split <;> rfl
@[simp] theorem State.setTransferSp_run (s : State) (v : Word) : (s.setTransferSp v).run = s.run := by
  unfold State.setTransferSp; split <;> rfl
@[simp] theorem State.setTransferSp_soLatch (s : State) (v : Word) : (s.setTransferSp v).soLatch = s.soLatch := by
  unfold State.setTransferSp; split <;> rfl
@[simp] theorem State.setTransferSp_mem (s : State) (v : Word) : (s.setTransferSp v).mem = s.mem := by
  unfold State.setTransferSp; split <;> rfl
@[simp] theorem State.setTransferSp_inputs (s : State) (v : Word) : (s.setTransferSp v).inputs = s.inputs := by
  unfold State.setTransferSp; split <;> rfl
@[simp] theorem State.setTransferSp_free (s : State) (v : Word) : (s.setTransferSp v).free = s.free := by
  unfold State.setTransferSp; split <;> rfl
@[simp] theorem State.setTransferSp_cfg (s : State) (v : Word) : (s.setTransferSp v).cfg = s.cfg := by
  unfold State.setTransferSp; split <;> rfl

/-! ### setReg -/

@[simp] theorem State.setReg_ip (s : State) (r : Reg) (v : Word) : (s.setReg r v).ip = s.ip := by
  cases r <;> simp [State.setReg]
@[simp] theorem State.setReg_w (s : State) (r : Reg) (v : Word) : (s.setReg r v).w = s.w := by
  cases r <;> simp [State.setReg]
@[simp] theorem State.setReg_pc (s : State) (r : Reg) (v : Word) : (s.setReg r v).pc = s.pc := by
  cases r <;> simp [State.setReg]
@[simp] theorem State.setReg_p (s : State) (r : Reg) (v : Word) : (s.setReg r v).p = s.p := by
  cases r <;> simp [State.setReg]
@[simp] theorem State.setReg_pre (s : State) (r : Reg) (v : Word) : (s.setReg r v).pre = s.pre := by
  cases r <;> simp [State.setReg]
@[simp] theorem State.setReg_run (s : State) (r : Reg) (v : Word) : (s.setReg r v).run = s.run := by
  cases r <;> simp [State.setReg]
@[simp] theorem State.setReg_soLatch (s : State) (r : Reg) (v : Word) : (s.setReg r v).soLatch = s.soLatch := by
  cases r <;> simp [State.setReg]
@[simp] theorem State.setReg_mem (s : State) (r : Reg) (v : Word) : (s.setReg r v).mem = s.mem := by
  cases r <;> simp [State.setReg]
@[simp] theorem State.setReg_inputs (s : State) (r : Reg) (v : Word) : (s.setReg r v).inputs = s.inputs := by
  cases r <;> simp [State.setReg]
@[simp] theorem State.setReg_free (s : State) (r : Reg) (v : Word) : (s.setReg r v).free = s.free := by
  cases r <;> simp [State.setReg]
@[simp] theorem State.setReg_cfg (s : State) (r : Reg) (v : Word) : (s.setReg r v).cfg = s.cfg := by
  cases r <;> simp [State.setReg]

/-! ### setSp -/

@[simp] theorem State.setSp_a (s : State) (k : StackPtr) (v : Word) : (s.setSp k v).a = s.a := by
  cases k <;> rfl
@[simp] theorem State.setSp_y (s : State) (k : StackPtr) (v : Word) : (s.setSp k v).y = s.y := by
  cases k <;> rfl
@[simp] theorem State.setSp_ip (s : State) (k : StackPtr) (v : Word) : (s.setSp k v).ip = s.ip := by
  cases k <;> rfl
@[simp] theorem State.setSp_w (s : State) (k : StackPtr) (v : Word) : (s.setSp k v).w = s.w := by
  cases k <;> rfl
@[simp] theorem State.setSp_pc (s : State) (k : StackPtr) (v : Word) : (s.setSp k v).pc = s.pc := by
  cases k <;> rfl
@[simp] theorem State.setSp_p (s : State) (k : StackPtr) (v : Word) : (s.setSp k v).p = s.p := by
  cases k <;> rfl
@[simp] theorem State.setSp_pre (s : State) (k : StackPtr) (v : Word) : (s.setSp k v).pre = s.pre := by
  cases k <;> rfl
@[simp] theorem State.setSp_run (s : State) (k : StackPtr) (v : Word) : (s.setSp k v).run = s.run := by
  cases k <;> rfl
@[simp] theorem State.setSp_soLatch (s : State) (k : StackPtr) (v : Word) : (s.setSp k v).soLatch = s.soLatch := by
  cases k <;> rfl
@[simp] theorem State.setSp_mem (s : State) (k : StackPtr) (v : Word) : (s.setSp k v).mem = s.mem := by
  cases k <;> rfl
@[simp] theorem State.setSp_inputs (s : State) (k : StackPtr) (v : Word) : (s.setSp k v).inputs = s.inputs := by
  cases k <;> rfl
@[simp] theorem State.setSp_free (s : State) (k : StackPtr) (v : Word) : (s.setSp k v).free = s.free := by
  cases k <;> rfl
@[simp] theorem State.setSp_cfg (s : State) (k : StackPtr) (v : Word) : (s.setSp k v).cfg = s.cfg := by
  cases k <;> rfl

/-! ### writeOp -/

@[simp] theorem State.writeOp_a (s : State) (b : Bool) (l : Loc) (v : Word) : (s.writeOp b l v).a = s.a := by
  cases b <;> rfl
@[simp] theorem State.writeOp_x (s : State) (b : Bool) (l : Loc) (v : Word) : (s.writeOp b l v).x = s.x := by
  cases b <;> rfl
@[simp] theorem State.writeOp_y (s : State) (b : Bool) (l : Loc) (v : Word) : (s.writeOp b l v).y = s.y := by
  cases b <;> rfl
@[simp] theorem State.writeOp_sk (s : State) (b : Bool) (l : Loc) (v : Word) : (s.writeOp b l v).sk = s.sk := by
  cases b <;> rfl
@[simp] theorem State.writeOp_su (s : State) (b : Bool) (l : Loc) (v : Word) : (s.writeOp b l v).su = s.su := by
  cases b <;> rfl
@[simp] theorem State.writeOp_ip (s : State) (b : Bool) (l : Loc) (v : Word) : (s.writeOp b l v).ip = s.ip := by
  cases b <;> rfl
@[simp] theorem State.writeOp_w (s : State) (b : Bool) (l : Loc) (v : Word) : (s.writeOp b l v).w = s.w := by
  cases b <;> rfl
@[simp] theorem State.writeOp_pc (s : State) (b : Bool) (l : Loc) (v : Word) : (s.writeOp b l v).pc = s.pc := by
  cases b <;> rfl
@[simp] theorem State.writeOp_p (s : State) (b : Bool) (l : Loc) (v : Word) : (s.writeOp b l v).p = s.p := by
  cases b <;> rfl
@[simp] theorem State.writeOp_pre (s : State) (b : Bool) (l : Loc) (v : Word) : (s.writeOp b l v).pre = s.pre := by
  cases b <;> rfl
@[simp] theorem State.writeOp_run (s : State) (b : Bool) (l : Loc) (v : Word) : (s.writeOp b l v).run = s.run := by
  cases b <;> rfl
@[simp] theorem State.writeOp_soLatch (s : State) (b : Bool) (l : Loc) (v : Word) : (s.writeOp b l v).soLatch = s.soLatch := by
  cases b <;> rfl
@[simp] theorem State.writeOp_inputs (s : State) (b : Bool) (l : Loc) (v : Word) : (s.writeOp b l v).inputs = s.inputs := by
  cases b <;> rfl
@[simp] theorem State.writeOp_free (s : State) (b : Bool) (l : Loc) (v : Word) : (s.writeOp b l v).free = s.free := by
  cases b <;> rfl
@[simp] theorem State.writeOp_cfg (s : State) (b : Bool) (l : Loc) (v : Word) : (s.writeOp b l v).cfg = s.cfg := by
  cases b <;> rfl

/-! ### past -/

@[simp] theorem State.past_a (s : State) (m : Mode) : (s.past m).a = s.a := by
  cases m <;> rfl
@[simp] theorem State.past_x (s : State) (m : Mode) : (s.past m).x = s.x := by
  cases m <;> rfl
@[simp] theorem State.past_y (s : State) (m : Mode) : (s.past m).y = s.y := by
  cases m <;> rfl
@[simp] theorem State.past_sk (s : State) (m : Mode) : (s.past m).sk = s.sk := by
  cases m <;> rfl
@[simp] theorem State.past_su (s : State) (m : Mode) : (s.past m).su = s.su := by
  cases m <;> rfl
@[simp] theorem State.past_w (s : State) (m : Mode) : (s.past m).w = s.w := by
  cases m <;> rfl
@[simp] theorem State.past_pc (s : State) (m : Mode) : (s.past m).pc = s.pc := by
  cases m <;> rfl
@[simp] theorem State.past_p (s : State) (m : Mode) : (s.past m).p = s.p := by
  cases m <;> rfl
@[simp] theorem State.past_pre (s : State) (m : Mode) : (s.past m).pre = s.pre := by
  cases m <;> rfl
@[simp] theorem State.past_run (s : State) (m : Mode) : (s.past m).run = s.run := by
  cases m <;> rfl
@[simp] theorem State.past_soLatch (s : State) (m : Mode) : (s.past m).soLatch = s.soLatch := by
  cases m <;> rfl
@[simp] theorem State.past_mem (s : State) (m : Mode) : (s.past m).mem = s.mem := by
  cases m <;> rfl
@[simp] theorem State.past_inputs (s : State) (m : Mode) : (s.past m).inputs = s.inputs := by
  cases m <;> rfl
@[simp] theorem State.past_free (s : State) (m : Mode) : (s.past m).free = s.free := by
  cases m <;> rfl
@[simp] theorem State.past_cfg (s : State) (m : Mode) : (s.past m).cfg = s.cfg := by
  cases m <;> rfl

/-! ### push8 -/

@[simp] theorem State.push8_a (s : State) (k : StackPtr) (v : Byte) : (s.push8 k v).a = s.a := by
  simp [State.push8]
@[simp] theorem State.push8_y (s : State) (k : StackPtr) (v : Byte) : (s.push8 k v).y = s.y := by
  simp [State.push8]
@[simp] theorem State.push8_ip (s : State) (k : StackPtr) (v : Byte) : (s.push8 k v).ip = s.ip := by
  simp [State.push8]
@[simp] theorem State.push8_w (s : State) (k : StackPtr) (v : Byte) : (s.push8 k v).w = s.w := by
  simp [State.push8]
@[simp] theorem State.push8_pc (s : State) (k : StackPtr) (v : Byte) : (s.push8 k v).pc = s.pc := by
  simp [State.push8]
@[simp] theorem State.push8_p (s : State) (k : StackPtr) (v : Byte) : (s.push8 k v).p = s.p := by
  simp [State.push8]
@[simp] theorem State.push8_pre (s : State) (k : StackPtr) (v : Byte) : (s.push8 k v).pre = s.pre := by
  simp [State.push8]
@[simp] theorem State.push8_run (s : State) (k : StackPtr) (v : Byte) : (s.push8 k v).run = s.run := by
  simp [State.push8]
@[simp] theorem State.push8_soLatch (s : State) (k : StackPtr) (v : Byte) : (s.push8 k v).soLatch = s.soLatch := by
  simp [State.push8]
@[simp] theorem State.push8_inputs (s : State) (k : StackPtr) (v : Byte) : (s.push8 k v).inputs = s.inputs := by
  simp [State.push8]
@[simp] theorem State.push8_free (s : State) (k : StackPtr) (v : Byte) : (s.push8 k v).free = s.free := by
  simp [State.push8]
@[simp] theorem State.push8_cfg (s : State) (k : StackPtr) (v : Byte) : (s.push8 k v).cfg = s.cfg := by
  simp [State.push8]

/-! ### push16 -/

@[simp] theorem State.push16_a (s : State) (k : StackPtr) (v : Word) : (s.push16 k v).a = s.a := by
  simp [State.push16]
@[simp] theorem State.push16_y (s : State) (k : StackPtr) (v : Word) : (s.push16 k v).y = s.y := by
  simp [State.push16]
@[simp] theorem State.push16_ip (s : State) (k : StackPtr) (v : Word) : (s.push16 k v).ip = s.ip := by
  simp [State.push16]
@[simp] theorem State.push16_w (s : State) (k : StackPtr) (v : Word) : (s.push16 k v).w = s.w := by
  simp [State.push16]
@[simp] theorem State.push16_pc (s : State) (k : StackPtr) (v : Word) : (s.push16 k v).pc = s.pc := by
  simp [State.push16]
@[simp] theorem State.push16_p (s : State) (k : StackPtr) (v : Word) : (s.push16 k v).p = s.p := by
  simp [State.push16]
@[simp] theorem State.push16_pre (s : State) (k : StackPtr) (v : Word) : (s.push16 k v).pre = s.pre := by
  simp [State.push16]
@[simp] theorem State.push16_run (s : State) (k : StackPtr) (v : Word) : (s.push16 k v).run = s.run := by
  simp [State.push16]
@[simp] theorem State.push16_soLatch (s : State) (k : StackPtr) (v : Word) : (s.push16 k v).soLatch = s.soLatch := by
  simp [State.push16]
@[simp] theorem State.push16_inputs (s : State) (k : StackPtr) (v : Word) : (s.push16 k v).inputs = s.inputs := by
  simp [State.push16]
@[simp] theorem State.push16_free (s : State) (k : StackPtr) (v : Word) : (s.push16 k v).free = s.free := by
  simp [State.push16]
@[simp] theorem State.push16_cfg (s : State) (k : StackPtr) (v : Word) : (s.push16 k v).cfg = s.cfg := by
  simp [State.push16]

/-! ### pulled8 -/

@[simp] theorem State.pulled8_a (s : State) (k : StackPtr) : (s.pulled8 k).a = s.a := by
  simp [State.pulled8]
@[simp] theorem State.pulled8_y (s : State) (k : StackPtr) : (s.pulled8 k).y = s.y := by
  simp [State.pulled8]
@[simp] theorem State.pulled8_ip (s : State) (k : StackPtr) : (s.pulled8 k).ip = s.ip := by
  simp [State.pulled8]
@[simp] theorem State.pulled8_w (s : State) (k : StackPtr) : (s.pulled8 k).w = s.w := by
  simp [State.pulled8]
@[simp] theorem State.pulled8_pc (s : State) (k : StackPtr) : (s.pulled8 k).pc = s.pc := by
  simp [State.pulled8]
@[simp] theorem State.pulled8_p (s : State) (k : StackPtr) : (s.pulled8 k).p = s.p := by
  simp [State.pulled8]
@[simp] theorem State.pulled8_pre (s : State) (k : StackPtr) : (s.pulled8 k).pre = s.pre := by
  simp [State.pulled8]
@[simp] theorem State.pulled8_run (s : State) (k : StackPtr) : (s.pulled8 k).run = s.run := by
  simp [State.pulled8]
@[simp] theorem State.pulled8_soLatch (s : State) (k : StackPtr) : (s.pulled8 k).soLatch = s.soLatch := by
  simp [State.pulled8]
@[simp] theorem State.pulled8_mem (s : State) (k : StackPtr) : (s.pulled8 k).mem = s.mem := by
  simp [State.pulled8]
@[simp] theorem State.pulled8_inputs (s : State) (k : StackPtr) : (s.pulled8 k).inputs = s.inputs := by
  simp [State.pulled8]
@[simp] theorem State.pulled8_free (s : State) (k : StackPtr) : (s.pulled8 k).free = s.free := by
  simp [State.pulled8]
@[simp] theorem State.pulled8_cfg (s : State) (k : StackPtr) : (s.pulled8 k).cfg = s.cfg := by
  simp [State.pulled8]

/-! ### pulled16 -/

@[simp] theorem State.pulled16_a (s : State) (k : StackPtr) : (s.pulled16 k).a = s.a := by
  simp [State.pulled16]
@[simp] theorem State.pulled16_y (s : State) (k : StackPtr) : (s.pulled16 k).y = s.y := by
  simp [State.pulled16]
@[simp] theorem State.pulled16_ip (s : State) (k : StackPtr) : (s.pulled16 k).ip = s.ip := by
  simp [State.pulled16]
@[simp] theorem State.pulled16_w (s : State) (k : StackPtr) : (s.pulled16 k).w = s.w := by
  simp [State.pulled16]
@[simp] theorem State.pulled16_pc (s : State) (k : StackPtr) : (s.pulled16 k).pc = s.pc := by
  simp [State.pulled16]
@[simp] theorem State.pulled16_p (s : State) (k : StackPtr) : (s.pulled16 k).p = s.p := by
  simp [State.pulled16]
@[simp] theorem State.pulled16_pre (s : State) (k : StackPtr) : (s.pulled16 k).pre = s.pre := by
  simp [State.pulled16]
@[simp] theorem State.pulled16_run (s : State) (k : StackPtr) : (s.pulled16 k).run = s.run := by
  simp [State.pulled16]
@[simp] theorem State.pulled16_soLatch (s : State) (k : StackPtr) : (s.pulled16 k).soLatch = s.soLatch := by
  simp [State.pulled16]
@[simp] theorem State.pulled16_mem (s : State) (k : StackPtr) : (s.pulled16 k).mem = s.mem := by
  simp [State.pulled16]
@[simp] theorem State.pulled16_inputs (s : State) (k : StackPtr) : (s.pulled16 k).inputs = s.inputs := by
  simp [State.pulled16]
@[simp] theorem State.pulled16_free (s : State) (k : StackPtr) : (s.pulled16 k).free = s.free := by
  simp [State.pulled16]
@[simp] theorem State.pulled16_cfg (s : State) (k : StackPtr) : (s.pulled16 k).cfg = s.cfg := by
  simp [State.pulled16]

/-! ### load -/

@[simp] theorem State.load_ip (s : State) (r : Reg) (v : Word) : (s.load r v).ip = s.ip := by
  unfold State.load; split <;> simp
@[simp] theorem State.load_w (s : State) (r : Reg) (v : Word) : (s.load r v).w = s.w := by
  unfold State.load; split <;> simp
@[simp] theorem State.load_pc (s : State) (r : Reg) (v : Word) : (s.load r v).pc = s.pc := by
  unfold State.load; split <;> simp
@[simp] theorem State.load_pre (s : State) (r : Reg) (v : Word) : (s.load r v).pre = s.pre := by
  unfold State.load; split <;> simp
@[simp] theorem State.load_run (s : State) (r : Reg) (v : Word) : (s.load r v).run = s.run := by
  unfold State.load; split <;> simp
@[simp] theorem State.load_soLatch (s : State) (r : Reg) (v : Word) : (s.load r v).soLatch = s.soLatch := by
  unfold State.load; split <;> simp
@[simp] theorem State.load_mem (s : State) (r : Reg) (v : Word) : (s.load r v).mem = s.mem := by
  unfold State.load; split <;> simp
@[simp] theorem State.load_inputs (s : State) (r : Reg) (v : Word) : (s.load r v).inputs = s.inputs := by
  unfold State.load; split <;> simp
@[simp] theorem State.load_cfg (s : State) (r : Reg) (v : Word) : (s.load r v).cfg = s.cfg := by
  unfold State.load; split <;> simp

/-! ### Registers and stack pointers read back -/

@[simp] theorem State.sys_setSys (s : State) (v : Word) : (s.setSys v).sys = v := by
  unfold State.setSys State.sys
  split <;> simp_all

@[simp] theorem State.reg_setReg (s : State) (r : Reg) (v : Word) : (s.setReg r v).reg r = v := by
  cases r <;> simp [State.setReg, State.reg]

@[simp] theorem State.sp_setSp (s : State) (k : StackPtr) (v : Word) : (s.setSp k v).sp k = v := by
  cases k <;> rfl

@[simp] theorem State.setSp_sp_of_ne (s : State) (k l : StackPtr) (v : Word) (h : l ≠ k) :
    (s.setSp k v).sp l = s.sp l := by
  cases k <;> cases l <;> first | rfl | exact absurd rfl h

@[simp] theorem State.sp_writeByte (s : State) (k : StackPtr) (a : Word) (v : Byte) :
    (s.writeByte a v).sp k = s.sp k := by
  cases k <;> rfl

@[simp] theorem State.reg_writeByte (s : State) (r : Reg) (a : Word) (v : Byte) :
    (s.writeByte a v).reg r = s.reg r := by
  cases r <;> rfl

/-- NOS and BOS do not move when a register is written (R21). -/
theorem State.setReg_below (s : State) (r : Reg) (v : Word) :
    (s.setReg r v).a.nos = s.a.nos ∧ (s.setReg r v).a.bos = s.a.bos ∧ (s.setReg r v).x.nos = s.x.nos
      ∧ (s.setReg r v).x.bos = s.x.bos ∧ (s.setReg r v).y.nos = s.y.nos ∧ (s.setReg r v).y.bos = s.y.bos := by
  cases r <;> simp [State.setReg]

/-- NOS and BOS do not move when a stack pointer is written (R21). -/
theorem State.setSp_below (s : State) (k : StackPtr) (v : Word) :
    (s.setSp k v).x.nos = s.x.nos ∧ (s.setSp k v).x.bos = s.x.bos := by
  cases k <;> exact ⟨rfl, rfl⟩

end Sys2Proof.Machine
end

