-- ==== Sys2Proof/Machine/Ports.lean ====
section
/-!
DEFINITION. The outputs of the core that are views of its state (R45, R114, R532, R560).
-/

namespace Sys2Proof.Machine

/-- `P[7:0]` (R45): bit 5 is the mode that an external MMU sees (R555). B is no register (R36); the model drives it
as 0. DESIGN CHOICE (log 39). -/
def State.portP (s : State) : Byte := s.p.toByte false

/-- `S[15:0]` (R45): the selected system stack pointer. -/
def State.portS (s : State) : Word := s.sys

/-- `A[15:0]`, `X[15:0]` and `Y[15:0]` (R45): the top elements. -/
def State.portAXY (s : State) : Word × Word × Word := (s.a.tos, s.x.tos, s.y.tos)

/-- `IP[15:0]` (R45). -/
def State.portIP (s : State) : Word := s.ip

/-- `W[15:0]` (R45). -/
def State.portW (s : State) : Word := s.w

/-- `IR[7:0]` (R42, R45): the opcode of the instruction at the pc. -/
def State.portIR (s : State) : Byte := s.opcode

/-- The opcode is of format REL, whose operand byte M holds sign-extended (R42, R103). -/
def relOpcode (op : Byte) : Bool := decide (op.toNat % 32 = 16) || decide (op = 0x80)

/-- `M[15:0]` (R42, R45, R103) once the instruction at the pc is fetched: its operand bytes `{OP2, OP1}`, a byte operand
zero-extended, a `rel8` sign-extended, and the mode byte of `cop` and `mov` in the upper half, where the lower half is
unspecified, a free value; nothing where the instruction has no operand byte. What M holds later within the instruction,
a memory operand or a pointer, is left out (R42, log 39). -/
def State.portM (s : State) : Option Word :=
  let b1 := s.readByte (s.pc + 1)
  let b2 := s.readByte (s.pc + 2)
  match shape s.cfg.variant s.pre s.opcode with
  | .imp _ => none
  | .byte _ =>
    if relOpcode s.opcode then some (sext b1)
    else if s.opcode = 0x02 ∨ s.opcode = 0x44 then some (joinBytes b1 (loByte (s.freeWord 0)))
    else some (zext b1)
  | .word _ => some (joinBytes b2 b1)
  | .imm _ => some (if s.wide then joinBytes b2 b1 else zext b1)
  | .zprel _ => some (joinBytes b2 b1)

/-- `IRQ_Msk` (R532). -/
def State.irqMsk (s : State) : Bool := s.p.i

/-- The classes of the `Mode[2:0]` output (R114). The spec does not say which opcodes are SPC. -/
inductive ModeCode where
  | val
  | inv
  | cop
  | brk
  | fth
  | pfx
  | wai
  deriving DecidableEq, Repr

/-- The number on `Mode[2:0]` (R114). -/
def modeNumber : ModeCode → Nat
  | .val => 0
  | .inv => 1
  | .cop => 2
  | .brk => 3
  | .fth => 4
  | .pfx => 6
  | .wai => 7

/-- The class of an opcode (R114): the unassigned ones are INV (R531), the five FORTH VM instructions FTH. -/
def modeCode (v : Variant) (op : Byte) : ModeCode :=
  if [0x8B, 0x9B, 0xAB, 0xBB, 0xEB, 0xFB].contains op then .pfx
  else if op = 0x00 then .brk
  else if op = 0x02 then .cop
  else if op = 0xCB then .wai
  else if [0x3B, 0x4B, 0x5B, 0x6B, 0x7B].contains op then .fth
  else if op = 0x82 || (decide (v = .hll) && [0x6F, 0x8F, 0xAF].contains op) then .inv
  else .val

/-- `RMW` (R74, R87): the opcode reads memory and then writes the same place: `tsb`, `trb`, the shifts, `inc`, `dec`
and `xma` on memory, and `rmbN` and `smbN`. -/
def rmwOpcode (v : Variant) (op : Byte) : Bool :=
  [0x04, 0x0C, 0x14, 0x1C, 0x42,
   0x06, 0x16, 0x26, 0x36, 0x46, 0x56, 0x66, 0x76,
   0x0E, 0x1E, 0x2E, 0x3E, 0x4E, 0x5E, 0x6E, 0x7E,
   0xC6, 0xD6, 0xE6, 0xF6, 0xCE, 0xDE, 0xEE, 0xFE].contains op
    || match v with
    | .hll => (decide (op.toNat % 16 = 7) || decide (op.toNat % 16 = 15)) && decide (op.toNat / 16 % 2 = 1)
    | .w65c02s => decide (op.toNat % 16 = 7)

end Sys2Proof.Machine
end

