-- ==== Sys2Proof/Tests/Slice0.lean ====
section
/-!
SUPPORT. Tests. Decoding tests take each row's bytes from the spec's opcode map (R105 to R110); a test named for V n takes
its values from that vector of 95_test_vectors.md. Each witness meets the hypotheses of one statement.
-/

namespace Sys2Proof.Tests

open Sys2Proof.Machine

/-! ### Helpers -/

/-- Reset, at the address where the spec's vectors start. -/
def start : State := { State.reset with pc := 0x1000 }

/-- What a next state shows. -/
def shows {α : Type} (o : Answer) (f : State → α) : Option α :=
  match o with
  | .next t => some (f t)
  | .fault _ => none
  | .refused _ => none

/-- Some bytes, prefixes first, read as one instruction and executed. -/
def ran (bytes : List Byte) (s : State) : Option State :=
  match decodePrefixed s.cfg.variant .clear bytes with
  | .ok (f, i, _) => shows (exec i { s with pre := f }) id
  | .error _ => none

/-- Bytes placed at the pc. -/
def at3 (b0 b1 b2 : Byte) (s : State) : State :=
  ((s.writeByte s.pc b0).writeByte (s.pc + 1) b1).writeByte (s.pc + 2) b2

/-- Each list of bytes decodes to its instruction, and no byte is left. -/
def allDecode (v : Variant) (l : List (List Byte × Instr)) : Bool :=
  l.all fun (bytes, i) =>
    match decodePrefixed v .clear bytes with
    | .ok (_, j, rest) => decide (j = i) && rest.isEmpty
    | .error _ => false

/-! ### WellFormed refuses ill-formed terms -/

/-- `rmb0` is in the W65C02S variant only (R107). -/
theorem test_variantOk_refuses : Instr.variantOk .hll (.rmb0 0x10) = false := by decide

/-- `xai` needs IND and SIZ (R228). -/
theorem test_formOk_refuses : Instr.formOk .clear .xai = false := by decide

/-- No opcode has `stz (zp)` (R105). -/
theorem test_modeOk_refuses : Instr.modeOk .hll (.stz (.zpInd 0x10)) = false := by decide

/-- A 16-bit immediate needs SIZ (R101). -/
theorem test_widthOk_refuses : Instr.widthOk .clear (.ldaImm (.b16 0x1234)) = false := by decide

/-- The whole check refuses each of them. -/
theorem test_wellFormed_refuses :
    (Instr.rmb0 0x10).wellFormed .hll .clear = false ∧ Instr.xai.wellFormed .hll .clear = false ∧
      (Instr.stz (.zpInd 0x10)).wellFormed .hll .clear = false ∧
      (Instr.ldaImm (.b16 0x1234)).wellFormed .hll .clear = false := by decide

/-! ### Decoding -/

/-- Row 0 of the opcode map, HLL variant (R105 to R107). -/
theorem test_decode_row_0 : allDecode .hll [
    ([0x00, 0x21], .brk 0x21), ([0x01, 0x21], .ora (.zpXInd 0x21)), ([0x02, 0x21], .cop 0x21),
    ([0x03, 0x21], .ora (.sp 0x21)), ([0x04, 0x21], .tsb (.zp 0x21)), ([0x05, 0x21], .ora (.zp 0x21)),
    ([0x06, 0x21], .asl (.zp 0x21)), ([0x07, 0x21], .ora (.bp 0x21)), ([0x08], .php),
    ([0x09, 0x21], .oraImm (.b8 0x21)), ([0x0A], .aslA), ([0x0B], .dup), ([0x0C, 0x21, 0x43], .tsb (.abs 0x4321)),
    ([0x0D, 0x21, 0x43], .ora (.abs 0x4321)), ([0x0E, 0x21, 0x43], .asl (.abs 0x4321)),
    ([0x0F, 0x21], .ora (.ip 0x21))] = true := by decide

/-- Row 1 of the opcode map, HLL variant (R105 to R107). -/
theorem test_decode_row_1 : allDecode .hll [
    ([0x10, 0x21], .bpl 0x21), ([0x11, 0x21], .ora (.zpIndY 0x21)), ([0x12, 0x21], .ora (.zpInd 0x21)),
    ([0x13, 0x21], .ora (.spIndY 0x21)), ([0x14, 0x21], .trb (.zp 0x21)), ([0x15, 0x21], .ora (.zpX 0x21)),
    ([0x16, 0x21], .asl (.zpX 0x21)), ([0x17, 0x21], .asl (.bp 0x21)), ([0x18], .clc),
    ([0x19, 0x21, 0x43], .ora (.absY 0x4321)), ([0x1A], .incA), ([0x1B], .swp),
    ([0x1C, 0x21, 0x43], .trb (.abs 0x4321)), ([0x1D, 0x21, 0x43], .ora (.absX 0x4321)),
    ([0x1E, 0x21, 0x43], .asl (.absX 0x4321)), ([0x1F, 0x21], .asl (.ip 0x21))] = true := by decide

/-- Row 2 of the opcode map, HLL variant (R105 to R107). -/
theorem test_decode_row_2 : allDecode .hll [
    ([0x20, 0x21, 0x43], .jsr 0x4321), ([0x21, 0x21], .and (.zpXInd 0x21)), ([0x22, 0x21], .adj 0x21),
    ([0x23, 0x21], .and (.sp 0x21)), ([0x24, 0x21], .bit (.zp 0x21)), ([0x25, 0x21], .and (.zp 0x21)),
    ([0x26, 0x21], .rol (.zp 0x21)), ([0x27, 0x21], .and (.bp 0x21)), ([0x28], .plp),
    ([0x29, 0x21], .andImm (.b8 0x21)), ([0x2A], .rolA), ([0x2B], .rot), ([0x2C, 0x21, 0x43], .bit (.abs 0x4321)),
    ([0x2D, 0x21, 0x43], .and (.abs 0x4321)), ([0x2E, 0x21, 0x43], .rol (.abs 0x4321)),
    ([0x2F, 0x21], .and (.ip 0x21))] = true := by decide

/-- Row 3 of the opcode map, HLL variant (R105 to R107). -/
theorem test_decode_row_3 : allDecode .hll [
    ([0x30, 0x21], .bmi 0x21), ([0x31, 0x21], .and (.zpIndY 0x21)), ([0x32, 0x21], .and (.zpInd 0x21)),
    ([0x33, 0x21], .and (.spIndY 0x21)), ([0x34, 0x21], .bit (.zpX 0x21)), ([0x35, 0x21], .and (.zpX 0x21)),
    ([0x36, 0x21], .rol (.zpX 0x21)), ([0x37, 0x21], .rol (.bp 0x21)), ([0x38], .sec),
    ([0x39, 0x21, 0x43], .and (.absY 0x4321)), ([0x3A], .decA), ([0x3B], .nxt),
    ([0x3C, 0x21, 0x43], .bit (.absX 0x4321)), ([0x3D, 0x21, 0x43], .and (.absX 0x4321)),
    ([0x3E, 0x21, 0x43], .rol (.absX 0x4321)), ([0x3F, 0x21], .rol (.ip 0x21))] = true := by decide

/-- Row 4 of the opcode map, HLL variant (R105 to R107). -/
theorem test_decode_row_4 : allDecode .hll [
    ([0x40], .rti), ([0x41, 0x21], .eor (.zpXInd 0x21)), ([0x42, 0x21], .xma 0x21), ([0x43, 0x21], .eor (.sp 0x21)),
    ([0x44, 0x21], .mov 0x21), ([0x45, 0x21], .eor (.zp 0x21)), ([0x46, 0x21], .lsr (.zp 0x21)),
    ([0x47, 0x21], .eor (.bp 0x21)), ([0x48], .pha), ([0x49, 0x21], .eorImm (.b8 0x21)), ([0x4A], .lsrA),
    ([0x4B], .phi), ([0x4C, 0x21, 0x43], .jmpAbs 0x4321), ([0x4D, 0x21, 0x43], .eor (.abs 0x4321)),
    ([0x4E, 0x21, 0x43], .lsr (.abs 0x4321)), ([0x4F, 0x21], .eor (.ip 0x21))] = true := by decide

/-- Row 5 of the opcode map, HLL variant (R105 to R107). -/
theorem test_decode_row_5 : allDecode .hll [
    ([0x50, 0x21], .bvc 0x21), ([0x51, 0x21], .eor (.zpIndY 0x21)), ([0x52, 0x21], .eor (.zpInd 0x21)),
    ([0x53, 0x21], .eor (.spIndY 0x21)), ([0x54, 0x21, 0x43], .pshImm 0x4321), ([0x55, 0x21], .eor (.zpX 0x21)),
    ([0x56, 0x21], .lsr (.zpX 0x21)), ([0x57, 0x21], .lsr (.bp 0x21)), ([0x58], .cli),
    ([0x59, 0x21, 0x43], .eor (.absY 0x4321)), ([0x5A], .phy), ([0x5B], .ini), ([0x5C, 0x21, 0x43], .phr 0x4321),
    ([0x5D, 0x21, 0x43], .eor (.absX 0x4321)), ([0x5E, 0x21, 0x43], .lsr (.absX 0x4321)),
    ([0x5F, 0x21], .lsr (.ip 0x21))] = true := by decide

/-- Row 6 of the opcode map, HLL variant (R105 to R107). -/
theorem test_decode_row_6 : allDecode .hll [
    ([0x60], .rts), ([0x61, 0x21], .adc (.zpXInd 0x21)), ([0x62, 0x21], .add 0x21), ([0x63, 0x21], .adc (.sp 0x21)),
    ([0x64, 0x21], .stz (.zp 0x21)), ([0x65, 0x21], .adc (.zp 0x21)), ([0x66, 0x21], .ror (.zp 0x21)),
    ([0x67, 0x21], .adc (.bp 0x21)), ([0x68], .pla), ([0x69, 0x21], .adcImm (.b8 0x21)), ([0x6A], .rorA),
    ([0x6B], .pli), ([0x6C, 0x21, 0x43], .jmpInd 0x4321), ([0x6D, 0x21, 0x43], .adc (.abs 0x4321)),
    ([0x6E, 0x21, 0x43], .ror (.abs 0x4321)), ([0x6F], .unassigned6F)] = true := by decide

/-- Row 7 of the opcode map, HLL variant (R105 to R107). -/
theorem test_decode_row_7 : allDecode .hll [
    ([0x70, 0x21], .bvs 0x21), ([0x71, 0x21], .adc (.zpIndY 0x21)), ([0x72, 0x21], .adc (.zpInd 0x21)),
    ([0x73, 0x21], .adc (.spIndY 0x21)), ([0x74, 0x21], .stz (.zpX 0x21)), ([0x75, 0x21], .adc (.zpX 0x21)),
    ([0x76, 0x21], .ror (.zpX 0x21)), ([0x77, 0x21], .ror (.bp 0x21)), ([0x78], .sei),
    ([0x79, 0x21, 0x43], .adc (.absY 0x4321)), ([0x7A], .ply), ([0x7B], .ent),
    ([0x7C, 0x21, 0x43], .jmpIndX 0x4321), ([0x7D, 0x21, 0x43], .adc (.absX 0x4321)),
    ([0x7E, 0x21, 0x43], .ror (.absX 0x4321)), ([0x7F, 0x21], .ror (.ip 0x21))] = true := by decide

/-- Row 8 of the opcode map, HLL variant (R105 to R107). -/
theorem test_decode_row_8 : allDecode .hll [
    ([0x80, 0x21], .bra 0x21), ([0x81, 0x21], .sta (.zpXInd 0x21)), ([0x82], .unassigned82),
    ([0x83, 0x21], .sta (.sp 0x21)), ([0x84, 0x21], .sty (.zp 0x21)), ([0x85, 0x21], .sta (.zp 0x21)),
    ([0x86, 0x21], .stx (.zp 0x21)), ([0x87, 0x21], .sta (.bp 0x21)), ([0x88], .dey),
    ([0x89, 0x21], .bitImm (.b8 0x21)), ([0x8A], .txa), ([0x8C, 0x21, 0x43], .sty (.abs 0x4321)),
    ([0x8D, 0x21, 0x43], .sta (.abs 0x4321)), ([0x8E, 0x21, 0x43], .stx (.abs 0x4321)), ([0x8F], .unassigned8F)] = true := by decide

/-- Row 9 of the opcode map, HLL variant (R105 to R107). -/
theorem test_decode_row_9 : allDecode .hll [
    ([0x90, 0x21], .bcc 0x21), ([0x91, 0x21], .sta (.zpIndY 0x21)), ([0x92, 0x21], .sta (.zpInd 0x21)),
    ([0x93, 0x21], .sta (.spIndY 0x21)), ([0x94, 0x21], .sty (.zpX 0x21)), ([0x95, 0x21], .sta (.zpX 0x21)),
    ([0x96, 0x21], .stx (.zpY 0x21)), ([0x97, 0x21], .tsb (.bp 0x21)), ([0x98], .tya),
    ([0x99, 0x21, 0x43], .sta (.absY 0x4321)), ([0x9A], .txs), ([0x9C, 0x21, 0x43], .stz (.abs 0x4321)),
    ([0x9D, 0x21, 0x43], .sta (.absX 0x4321)), ([0x9E, 0x21, 0x43], .stz (.absX 0x4321)),
    ([0x9F, 0x21], .tsb (.ip 0x21))] = true := by decide

/-- Row A of the opcode map, HLL variant (R105 to R107). -/
theorem test_decode_row_A : allDecode .hll [
    ([0xA0, 0x21], .ldyImm (.b8 0x21)), ([0xA1, 0x21], .lda (.zpXInd 0x21)), ([0xA2, 0x21], .ldxImm (.b8 0x21)),
    ([0xA3, 0x21], .lda (.sp 0x21)), ([0xA4, 0x21], .ldy (.zp 0x21)), ([0xA5, 0x21], .lda (.zp 0x21)),
    ([0xA6, 0x21], .ldx (.zp 0x21)), ([0xA7, 0x21], .lda (.bp 0x21)), ([0xA8], .tay),
    ([0xA9, 0x21], .ldaImm (.b8 0x21)), ([0xAA], .tax), ([0xAC, 0x21, 0x43], .ldy (.abs 0x4321)),
    ([0xAD, 0x21, 0x43], .lda (.abs 0x4321)), ([0xAE, 0x21, 0x43], .ldx (.abs 0x4321)), ([0xAF], .unassignedAF)] = true := by decide

/-- Row B of the opcode map, HLL variant (R105 to R107). -/
theorem test_decode_row_B : allDecode .hll [
    ([0xB0, 0x21], .bcs 0x21), ([0xB1, 0x21], .lda (.zpIndY 0x21)), ([0xB2, 0x21], .lda (.zpInd 0x21)),
    ([0xB3, 0x21], .lda (.spIndY 0x21)), ([0xB4, 0x21], .ldy (.zpX 0x21)), ([0xB5, 0x21], .lda (.zpX 0x21)),
    ([0xB6, 0x21], .ldx (.zpY 0x21)), ([0xB7, 0x21], .trb (.bp 0x21)), ([0xB8], .clv),
    ([0xB9, 0x21, 0x43], .lda (.absY 0x4321)), ([0xBA], .tsx), ([0xBC, 0x21, 0x43], .ldy (.absX 0x4321)),
    ([0xBD, 0x21, 0x43], .lda (.absX 0x4321)), ([0xBE, 0x21, 0x43], .ldx (.absY 0x4321)),
    ([0xBF, 0x21], .trb (.ip 0x21))] = true := by decide

/-- Row C of the opcode map, HLL variant (R105 to R107). -/
theorem test_decode_row_C : allDecode .hll [
    ([0xC0, 0x21], .cpyImm (.b8 0x21)), ([0xC1, 0x21], .cmp (.zpXInd 0x21)), ([0xC2, 0x21], .sta (.ip 0x21)),
    ([0xC3, 0x21], .cmp (.sp 0x21)), ([0xC4, 0x21], .cpy (.zp 0x21)), ([0xC5, 0x21], .cmp (.zp 0x21)),
    ([0xC6, 0x21], .dec (.zp 0x21)), ([0xC7, 0x21], .cmp (.bp 0x21)), ([0xC8], .iny),
    ([0xC9, 0x21], .cmpImm (.b8 0x21)), ([0xCA], .dex), ([0xCB], .wai), ([0xCC, 0x21, 0x43], .cpy (.abs 0x4321)),
    ([0xCD, 0x21, 0x43], .cmp (.abs 0x4321)), ([0xCE, 0x21, 0x43], .dec (.abs 0x4321)),
    ([0xCF, 0x21], .cmp (.ip 0x21))] = true := by decide

/-- Row D of the opcode map, HLL variant (R105 to R107). -/
theorem test_decode_row_D : allDecode .hll [
    ([0xD0, 0x21], .bne 0x21), ([0xD1, 0x21], .cmp (.zpIndY 0x21)), ([0xD2, 0x21], .cmp (.zpInd 0x21)),
    ([0xD3, 0x21], .cmp (.spIndY 0x21)), ([0xD4, 0x21], .psh (.zp 0x21)), ([0xD5, 0x21], .cmp (.zpX 0x21)),
    ([0xD6, 0x21], .dec (.zpX 0x21)), ([0xD7, 0x21], .dec (.bp 0x21)), ([0xD8], .cld),
    ([0xD9, 0x21, 0x43], .cmp (.absY 0x4321)), ([0xDA], .phx), ([0xDB], .stp),
    ([0xDC, 0x21, 0x43], .psh (.abs 0x4321)), ([0xDD, 0x21, 0x43], .cmp (.absX 0x4321)),
    ([0xDE, 0x21, 0x43], .dec (.absX 0x4321)), ([0xDF, 0x21], .dec (.ip 0x21))] = true := by decide

/-- Row E of the opcode map, HLL variant (R105 to R107). -/
theorem test_decode_row_E : allDecode .hll [
    ([0xE0, 0x21], .cpxImm (.b8 0x21)), ([0xE1, 0x21], .sbc (.zpXInd 0x21)), ([0xE2, 0x21], .lda (.ip 0x21)),
    ([0xE3, 0x21], .sbc (.sp 0x21)), ([0xE4, 0x21], .cpx (.zp 0x21)), ([0xE5, 0x21], .sbc (.zp 0x21)),
    ([0xE6, 0x21], .inc (.zp 0x21)), ([0xE7, 0x21], .sbc (.bp 0x21)), ([0xE8], .inx),
    ([0xE9, 0x21], .sbcImm (.b8 0x21)), ([0xEA], .nop), ([0xEC, 0x21, 0x43], .cpx (.abs 0x4321)),
    ([0xED, 0x21, 0x43], .sbc (.abs 0x4321)), ([0xEE, 0x21, 0x43], .inc (.abs 0x4321)), ([0xEF, 0x21], .sub 0x21)] = true := by decide

/-- Row F of the opcode map, HLL variant (R105 to R107). -/
theorem test_decode_row_F : allDecode .hll [
    ([0xF0, 0x21], .beq 0x21), ([0xF1, 0x21], .sbc (.zpIndY 0x21)), ([0xF2, 0x21], .sbc (.zpInd 0x21)),
    ([0xF3, 0x21], .sbc (.spIndY 0x21)), ([0xF4, 0x21], .pul (.zp 0x21)), ([0xF5, 0x21], .sbc (.zpX 0x21)),
    ([0xF6, 0x21], .inc (.zpX 0x21)), ([0xF7, 0x21], .inc (.bp 0x21)), ([0xF8], .sed),
    ([0xF9, 0x21, 0x43], .sbc (.absY 0x4321)), ([0xFA], .plx), ([0xFC, 0x21, 0x43], .pul (.abs 0x4321)),
    ([0xFD, 0x21, 0x43], .sbc (.absX 0x4321)), ([0xFE, 0x21, 0x43], .inc (.absX 0x4321)),
    ([0xFF, 0x21], .inc (.ip 0x21))] = true := by decide

/-- Columns 7 and F, W65C02S variant (R107). -/
theorem test_decode_w65c02s : allDecode .w65c02s [
    ([0x07, 0x21], .rmb0 0x21), ([0x0F, 0x21, 0x43], .bbr0 0x21 0x43), ([0x17, 0x21], .rmb1 0x21),
    ([0x1F, 0x21, 0x43], .bbr1 0x21 0x43), ([0x27, 0x21], .rmb2 0x21), ([0x2F, 0x21, 0x43], .bbr2 0x21 0x43),
    ([0x37, 0x21], .rmb3 0x21), ([0x3F, 0x21, 0x43], .bbr3 0x21 0x43), ([0x47, 0x21], .rmb4 0x21),
    ([0x4F, 0x21, 0x43], .bbr4 0x21 0x43), ([0x57, 0x21], .rmb5 0x21), ([0x5F, 0x21, 0x43], .bbr5 0x21 0x43),
    ([0x67, 0x21], .rmb6 0x21), ([0x6F, 0x21, 0x43], .bbr6 0x21 0x43), ([0x77, 0x21], .rmb7 0x21),
    ([0x7F, 0x21, 0x43], .bbr7 0x21 0x43), ([0x87, 0x21], .smb0 0x21), ([0x8F, 0x21, 0x43], .bbs0 0x21 0x43),
    ([0x97, 0x21], .smb1 0x21), ([0x9F, 0x21, 0x43], .bbs1 0x21 0x43), ([0xA7, 0x21], .smb2 0x21),
    ([0xAF, 0x21, 0x43], .bbs2 0x21 0x43), ([0xB7, 0x21], .smb3 0x21), ([0xBF, 0x21, 0x43], .bbs3 0x21 0x43),
    ([0xC7, 0x21], .smb4 0x21), ([0xCF, 0x21, 0x43], .bbs4 0x21 0x43), ([0xD7, 0x21], .smb5 0x21),
    ([0xDF, 0x21, 0x43], .bbs5 0x21 0x43), ([0xE7, 0x21], .smb6 0x21), ([0xEF, 0x21, 0x43], .bbs6 0x21 0x43),
    ([0xF7, 0x21], .smb7 0x21), ([0xFF, 0x21, 0x43], .bbs7 0x21 0x43)] = true := by decide

/-- The extended forms under ind and isz (R110). -/
theorem test_decode_ind : allDecode .hll [
    ([0x9B, 0x0B], .tai), ([0xBB, 0x0B], .xai), ([0x9B, 0x1B], .bsw), ([0x9B, 0x2B], .rev), ([0x9B, 0x3B], .nxtItc),
    ([0x9B, 0x7B], .entItc), ([0x9B, 0x4B], .phw), ([0x9B, 0x5B], .inw), ([0x9B, 0x6B], .plw), ([0x9B, 0x4A], .asr),
    ([0xBB, 0x4A], .asrW), ([0x9B, 0x0A], .aslAV), ([0x9B, 0x2A], .rolAV), ([0x9B, 0x1A], .incAC),
    ([0x9B, 0x3A], .decAC), ([0x9B, 0x80, 0x21, 0x43], .jrl 0x4321), ([0x9B, 0x30, 0x21, 0x43], .jmi 0x4321),
    ([0x9B, 0x10, 0x21, 0x43], .jpl 0x4321), ([0x9B, 0x70, 0x21, 0x43], .jvs 0x4321),
    ([0x9B, 0x50, 0x21, 0x43], .jvc 0x4321), ([0x9B, 0xF0, 0x21, 0x43], .jeq 0x4321),
    ([0x9B, 0xD0, 0x21, 0x43], .jne 0x4321), ([0x9B, 0xB0, 0x21, 0x43], .jcs 0x4321),
    ([0x9B, 0x90, 0x21, 0x43], .jcc 0x4321), ([0xBB, 0x30, 0x21, 0x43], .jle 0x4321),
    ([0xBB, 0x10, 0x21, 0x43], .jgt 0x4321), ([0xBB, 0x70, 0x21, 0x43], .jlt 0x4321),
    ([0xBB, 0x50, 0x21, 0x43], .jge 0x4321), ([0xBB, 0xF0, 0x21, 0x43], .jhs 0x4321),
    ([0xBB, 0xD0, 0x21, 0x43], .jlo 0x4321), ([0xBB, 0xB0, 0x21, 0x43], .jhi 0x4321),
    ([0xBB, 0x90, 0x21, 0x43], .jls 0x4321)] = true := by decide

/-- The extended forms under siz and osx (R110). -/
theorem test_decode_siz_osx : allDecode .hll [
    ([0xAB, 0x0B], .tia), ([0xAB, 0x30, 0x21], .ble 0x21), ([0xAB, 0x10, 0x21], .bgt 0x21),
    ([0xAB, 0x70, 0x21], .blt 0x21), ([0xAB, 0x50, 0x21], .bge 0x21), ([0xAB, 0xF0, 0x21], .bhs 0x21),
    ([0xAB, 0xD0, 0x21], .blo 0x21), ([0xAB, 0xB0, 0x21], .bhi 0x21), ([0xAB, 0x90, 0x21], .bls 0x21),
    ([0x8B, 0xA2, 0x21], .ldsImm (.b8 0x21)), ([0x8B, 0xA6, 0x21], .lds (.zp 0x21)),
    ([0x8B, 0xB6, 0x21], .lds (.zpY 0x21)), ([0x8B, 0xAE, 0x21, 0x43], .lds (.abs 0x4321)),
    ([0x8B, 0xBE, 0x21, 0x43], .lds (.absY 0x4321)), ([0x8B, 0x86, 0x21], .sts (.zp 0x21)),
    ([0x8B, 0x96, 0x21], .sts (.zpY 0x21)), ([0x8B, 0x8E, 0x21, 0x43], .sts (.abs 0x4321)),
    ([0x8B, 0xE0, 0x21], .cpsImm (.b8 0x21)), ([0x8B, 0xE4, 0x21], .cps (.zp 0x21)),
    ([0x8B, 0xEC, 0x21, 0x43], .cps (.abs 0x4321)), ([0x8B, 0xAA], .tas), ([0x8B, 0x8A], .tsa),
    ([0x8B, 0xDA], .phs), ([0x8B, 0xFA], .pls), ([0x8B, 0xE8], .ins), ([0x8B, 0xCA], .des)] = true := by decide

/-- Immediate operands under siz, low byte first (R101, R103). -/
theorem test_decode_imm16 : allDecode .hll [
    ([0xAB, 0x09, 0x21, 0x43], .oraImm (.b16 0x4321)), ([0xAB, 0x29, 0x21, 0x43], .andImm (.b16 0x4321)),
    ([0xAB, 0x49, 0x21, 0x43], .eorImm (.b16 0x4321)), ([0xAB, 0x69, 0x21, 0x43], .adcImm (.b16 0x4321)),
    ([0xAB, 0x89, 0x21, 0x43], .bitImm (.b16 0x4321)), ([0xAB, 0xA0, 0x21, 0x43], .ldyImm (.b16 0x4321)),
    ([0xAB, 0xA2, 0x21, 0x43], .ldxImm (.b16 0x4321)), ([0xAB, 0xA9, 0x21, 0x43], .ldaImm (.b16 0x4321)),
    ([0xAB, 0xC0, 0x21, 0x43], .cpyImm (.b16 0x4321)), ([0xAB, 0xC9, 0x21, 0x43], .cmpImm (.b16 0x4321)),
    ([0xAB, 0xE0, 0x21, 0x43], .cpxImm (.b16 0x4321)), ([0xAB, 0xE9, 0x21, 0x43], .sbcImm (.b16 0x4321))] = true := by decide

/-- The prefix instructions (R109). -/
theorem test_decode_prefixes :
    [0x9B, 0xAB, 0xBB, 0xEB, 0xFB, 0x8B].map (fun b => decodeAt .hll .clear b 0 0) = prefixes := by decide

/-- The host's form of a word: the first byte lowest. -/
theorem test_decodeTableWord : decodeTableWord 24 0x43218D = some (.sta (.abs 0x4321)) := by decide

/-- Bytes that end early are refused by name. -/
theorem test_decode_missing :
    decode .hll .clear [] = .error .noOpcode ∧ decode .hll .clear [0x8D, 0x00] = .error .missingOperand := by decide

/-! ### One instruction each, from the spec's vectors -/

/-- V29: `siz lda 2,S` (R160). -/
theorem test_V29_siz_lda :
    (ran [0xAB, 0xA3, 0x02] { start with pc := 0x1001, sk := 0x01F0, mem := [(0x01F3, 0x34), (0x01F4, 0x12)] }).map (fun t =>
        decide (t.a.tos = 0x1234 ∧ t.p.n = false ∧ t.p.v = false ∧ t.p.z = false ∧ t.p.c = false ∧ t.pc = 0x1003)) = some true := by decide

/-- V45: `isz lda 0,I++` (R171). -/
theorem test_V45_isz_lda :
    (ran [0xBB, 0xE2, 0x00]
      { start with pc := 0x1001, ip := 0x4000, mem := [(0x4001, 0x50), (0x5000, 0x34), (0x5001, 0x12)] }).map (fun t =>
        decide (t.a.tos = 0x1234 ∧ t.ip = 0x4002 ∧ t.p.n = false ∧ t.p.v = false ∧ t.p.z = false ∧
          t.p.c = false ∧ t.pc = 0x1003)) = some true := by decide

/-- V61: `dup` (R222). -/
theorem test_V61_dup :
    (ran [0x0B] { start with a := ⟨0x1111, 0x2222, 0x3333⟩ }).map (fun t =>
        decide (t.a.nos = 0x1111 ∧ t.a.bos = 0x2222 ∧ t.p.n = false ∧ t.p.v = false ∧ t.p.z = false ∧
          t.p.c = false ∧ t.pc = 0x1001)) = some true := by decide

/-- V65: `oay rot` (R224). -/
theorem test_V65_oay_rot :
    (ran [0xFB, 0x2B] { start with pc := 0x1001, y := ⟨0x1111, 0x2222, 0x3333⟩ }).map (fun t =>
        decide (t.y.tos = 0x2222 ∧ t.y.nos = 0x3333 ∧ t.y.bos = 0x1111 ∧ t.p.n = false ∧ t.p.v = false ∧
          t.p.z = false ∧ t.p.c = false ∧ t.pc = 0x1002)) = some true := by decide

/-- V69: `xai` (R228). -/
theorem test_V69_xai :
    (ran [0xBB, 0x0B] { start with pc := 0x1001, ip := 0x4321, a := { start.a with tos := 0x1111 } }).map (fun t =>
        decide (t.a.tos = 0x4321 ∧ t.ip = 0x1111 ∧ t.p.n = false ∧ t.p.v = false ∧ t.p.z = false ∧
          t.p.c = false ∧ t.pc = 0x1002)) = some true := by decide

/-- V73: `rev` (R230). -/
theorem test_V73_rev :
    (ran [0x9B, 0x2B] { start with pc := 0x1001, a := { start.a with tos := 0x1234 } }).map (fun t =>
        decide (t.a.tos = 0x2C48 ∧ t.p.n = false ∧ t.p.v = false ∧ t.p.z = false ∧ t.p.c = false ∧ t.pc = 0x1002)) = some true := by decide

/-- V77: `nxt` (R244). -/
theorem test_V77_nxt :
    (ran [0x3B] { start with ip := 0xFFFF, mem := [(0x0000, 0x50)] }).map (fun t =>
        decide (t.ip = 0x0001 ∧ t.w = 0x5000 ∧ t.p.n = false ∧ t.p.v = false ∧ t.p.z = false ∧ t.p.c = false ∧
          t.pc = 0x5000)) = some true := by decide

/-- V81: `osx ent` (R246). -/
theorem test_V81_osx_ent :
    (ran [0x8B, 0x7B]
      { start with pc := 0x1001, ip := 0x4002, w := 0x5000, x := { start.x with tos := 0x00FF }, mem := [(0x5003, 0x60)] }).map (fun t =>
        decide (t.sk = 0x01FD ∧ t.ip = 0x5004 ∧ t.w = 0x6000 ∧ t.p.n = false ∧ t.p.v = false ∧ t.p.z = false ∧
          t.p.c = false ∧ t.readByte 0x01FF = 0x40 ∧ t.readByte 0x01FE = 0x02 ∧ t.pc = 0x6000)) = some true := by decide

/-- V85: `pli` (R249). -/
theorem test_V85_pli :
    (ran [0x6B] { start with x := { start.x with tos := 0x00FD }, mem := [(0x00FE, 0x02), (0x00FF, 0x40)] }).map (fun t =>
        decide (t.x.tos = 0x00FF ∧ t.ip = 0x4002 ∧ t.p.n = false ∧ t.p.v = false ∧ t.p.z = false ∧
          t.p.c = false ∧ t.pc = 0x1001)) = some true := by decide

/-- V89: `inw` (R252). -/
theorem test_V89_inw :
    (ran [0x9B, 0x5B] { start with pc := 0x1001, w := 0xFFFF }).map (fun t =>
        decide (t.w = 0x0000 ∧ t.p.n = false ∧ t.p.v = false ∧ t.p.z = false ∧ t.p.c = false ∧ t.pc = 0x1002)) = some true := by decide

/-- V93: `siz sta 0,I++` (R261). -/
theorem test_V93_siz_sta :
    (ran [0xAB, 0xC2, 0x00] { start with pc := 0x1001, ip := 0x4000, a := { start.a with tos := 0xBEEF } }).map (fun t =>
        decide (t.ip = 0x4002 ∧ t.p.n = false ∧ t.p.v = false ∧ t.p.z = false ∧ t.p.c = false ∧
          t.readByte 0x4000 = 0xEF ∧ t.readByte 0x4001 = 0xBE ∧ t.pc = 0x1003)) = some true := by decide

/-- V97: `siz pha` (R281). -/
theorem test_V97_siz_pha :
    (ran [0xAB, 0x48] { start with pc := 0x1001, a := { start.a with tos := 0x12CD } }).map (fun t =>
        decide (t.sk = 0x01FD ∧ t.p.n = false ∧ t.p.v = false ∧ t.p.z = false ∧ t.p.c = false ∧
          t.readByte 0x01FF = 0x12 ∧ t.readByte 0x01FE = 0xCD ∧ t.pc = 0x1002)) = some true := by decide

/-- V101: `osx pha` (R281). -/
theorem test_V101_osx_pha :
    (ran [0x8B, 0x48]
      { start with pc := 0x1001, a := { start.a with tos := 0x00CD }, x := { start.x with tos := 0x0100 } }).map (fun t =>
        decide (t.x.tos = 0x00FF ∧ t.p.n = false ∧ t.p.v = false ∧ t.p.z = false ∧ t.p.c = false ∧
          t.readByte 0x0100 = 0xCD ∧ t.pc = 0x1002)) = some true := by decide

/-- V105: `pla` (R285). -/
theorem test_V105_pla :
    (ran [0x68] { start with sk := 0x02FF, mem := [(0x0300, 0x7F)] }).map (fun t =>
        decide (t.a.tos = 0x007F ∧ t.sk = 0x0300 ∧ t.p.n = false ∧ t.p.v = false ∧ t.p.z = false ∧
          t.p.c = false ∧ t.pc = 0x1001)) = some true := by decide

/-- V109: `osx siz plx` (R286). -/
theorem test_V109_osx_siz :
    (ran [0x8B, 0xAB, 0xFA]
      { start with pc := 0x1002, sk := 0x01F0, x := { start.x with tos := 0x00EF }, mem := [(0x00F1, 0x30)] }).map (fun t =>
        decide (t.x.tos = 0x00F1 ∧ t.sk = 0x3000 ∧ t.p.v = false ∧ t.p.c = false ∧ t.pc = 0x1003)) = some true := by decide

/-- V113: `php` (R284). -/
theorem test_V113_php :
    (ran [0x08] { start with su := 0x3000, p := { start.p with m := false, z := true, d := true, i := false } }).map (fun t =>
        decide (t.su = 0x2FFF ∧ t.p.n = false ∧ t.p.v = false ∧ t.p.z = true ∧ t.p.c = false ∧
          t.readByte 0x3000 = 0x1A ∧ t.pc = 0x1001)) = some true := by decide

/-- V117: `psh $FF` (R291). -/
theorem test_V117_psh :
    (ran [0xD4, 0xFF] { start with mem := [(0x0000, 0x12), (0x00FF, 0x34), (0x0100, 0x99)] }).map (fun t =>
        decide (t.sk = 0x01FD ∧ t.p.n = false ∧ t.p.v = false ∧ t.p.z = false ∧ t.p.c = false ∧
          t.readByte 0x01FF = 0x12 ∧ t.readByte 0x01FE = 0x34 ∧ t.pc = 0x1002)) = some true := by decide

/-- V121: `pul $3000` (R294). -/
theorem test_V121_pul :
    (ran [0xFC, 0x00, 0x30] { start with sk := 0x01FD, mem := [(0x01FE, 0x78), (0x01FF, 0x56)] }).map (fun t =>
        decide (t.sk = 0x01FF ∧ t.p.n = false ∧ t.p.v = false ∧ t.p.z = false ∧ t.p.c = false ∧
          t.readByte 0x3000 = 0x78 ∧ t.readByte 0x3001 = 0x56 ∧ t.pc = 0x1003)) = some true := by decide

/-- V125: `adj #$04` (R302). -/
theorem test_V125_adj :
    (ran [0x22, 0x04] { start with sk := 0x01F0 }).map (fun t =>
        decide (t.sk = 0x01F4 ∧ t.p.n = false ∧ t.p.v = false ∧ t.p.z = false ∧ t.p.c = false ∧ t.pc = 0x1002)) = some true := by decide

/-- V145: `siz sta $FFFF` (R340). -/
theorem test_V145_siz_sta :
    (ran [0xAB, 0x8D, 0xFF, 0xFF] { start with pc := 0x1001, a := { start.a with tos := 0x12CD } }).map (fun t =>
        decide (t.p.n = false ∧ t.p.v = false ∧ t.p.z = false ∧ t.p.c = false ∧ t.readByte 0xFFFF = 0xCD ∧
          t.readByte 0x0000 = 0x12 ∧ t.pc = 0x1004)) = some true := by decide

/-- V149: `siz sty $3000` (R342). -/
theorem test_V149_siz_sty :
    (ran [0xAB, 0x8C, 0x00, 0x30] { start with pc := 0x1001, y := { start.y with tos := 0xA55A } }).map (fun t =>
        decide (t.p.n = false ∧ t.p.v = false ∧ t.p.z = false ∧ t.p.c = false ∧ t.readByte 0x3000 = 0x5A ∧
          t.readByte 0x3001 = 0xA5 ∧ t.pc = 0x1004)) = some true := by decide

/-- V153: `siz tax` (R351). -/
theorem test_V153_siz_tax :
    (ran [0xAB, 0xAA]
      { start with pc := 0x1001, a := { start.a with tos := 0x1280 }, x := { start.x with tos := 0xFFFF } }).map (fun t =>
        decide (t.x.tos = 0x1280 ∧ t.p.n = false ∧ t.p.v = false ∧ t.p.z = false ∧ t.p.c = false ∧ t.pc = 0x1002)) = some true := by decide

/-- V157: `osx tax` (R351). -/
theorem test_V157_osx_tax :
    (ran [0x8B, 0xAA] { start with pc := 0x1001, a := { start.a with tos := 0x12F0 } }).map (fun t =>
        decide (t.sk = 0x01F0 ∧ t.p.v = false ∧ t.p.c = false ∧ t.pc = 0x1002)) = some true := by decide

/-- V161: `siz txs` (R355). -/
theorem test_V161_siz_txs :
    (ran [0xAB, 0x9A] { start with pc := 0x1001, x := { start.x with tos := 0x12F0 } }).map (fun t =>
        decide (t.sk = 0x12F0 ∧ t.p.n = false ∧ t.p.v = false ∧ t.p.z = false ∧ t.p.c = false ∧ t.pc = 0x1002)) = some true := by decide

/-- V165: `siz tsx` (R356). -/
theorem test_V165_siz_tsx :
    (ran [0xAB, 0xBA] { start with pc := 0x1001, sk := 0x01FD }).map (fun t =>
        decide (t.x.tos = 0x01FD ∧ t.p.n = false ∧ t.p.v = false ∧ t.p.z = false ∧ t.p.c = false ∧ t.pc = 0x1002)) = some true := by decide

/-- V173: `siz eor #$FFFF` (R386). -/
theorem test_V173_siz_eor :
    (ran [0xAB, 0x49, 0xFF, 0xFF] { start with pc := 0x1001, a := { start.a with tos := 0x12F0 } }).map (fun t =>
        decide (t.a.tos = 0xED0F ∧ t.p.n = true ∧ t.p.v = false ∧ t.p.z = false ∧ t.p.c = false ∧ t.pc = 0x1004)) = some true := by decide

/-- V177: `siz bit $10` (R390). -/
theorem test_V177_siz_bit :
    (ran [0xAB, 0x24, 0x10]
      { start with pc := 0x1001, a := { start.a with tos := 0x4000 }, mem := [(0x0010, 0xC0), (0x0011, 0x40)] }).map (fun t =>
        decide (t.p.n = false ∧ t.p.v = true ∧ t.p.z = false ∧ t.p.c = false ∧ t.pc = 0x1003)) = some true := by decide

/-- V181: `trb $10` (R392). -/
theorem test_V181_trb :
    (ran [0x14, 0x10] { start with a := { start.a with tos := 0x000F }, mem := [(0x0010, 0xFF)] }).map (fun t =>
        decide (t.p.n = false ∧ t.p.v = false ∧ t.p.z = false ∧ t.p.c = false ∧ t.readByte 0x0010 = 0xF0 ∧
          t.pc = 0x1002)) = some true := by decide

/-- V185: `smb7 $10` (R394). -/
theorem test_V185_smb7 :
    (ran [0xF7, 0x10] { start with cfg := { start.cfg with variant := .w65c02s }, mem := [] }).map (fun t =>
        decide (t.p.n = false ∧ t.p.v = false ∧ t.p.z = false ∧ t.p.c = false ∧ t.readByte 0x0010 = 0x80 ∧
          t.pc = 0x1002)) = some true := by decide

/-- V189: `cli` (R403). -/
theorem test_V189_cli :
    (ran [0x58] start).map (fun t =>
        decide (t.p.i = false ∧ t.p.n = false ∧ t.p.v = false ∧ t.p.z = false ∧ t.p.c = false ∧ t.pc = 0x1001)) = some true := by decide

/-- V197: `siz asl $10` (R425). -/
theorem test_V197_siz_asl :
    (ran [0xAB, 0x06, 0x10] { start with pc := 0x1001, mem := [(0x0010, 0x80)] }).map (fun t =>
        decide (t.p.n = false ∧ t.p.v = false ∧ t.p.z = false ∧ t.p.c = false ∧ t.readByte 0x0010 = 0x00 ∧
          t.readByte 0x0011 = 0x01 ∧ t.pc = 0x1003)) = some true := by decide

/-- V205: `siz ror $3000,X` (R428). -/
theorem test_V205_siz_ror :
    (ran [0xAB, 0x7E, 0x00, 0x30]
      { start with pc := 0x1001, x := { start.x with tos := 0x0002 }, p := { start.p with c := false }, mem := [(0x3002, 0x01), (0x3003, 0x80)] }).map (fun t =>
        decide (t.p.n = false ∧ t.p.v = false ∧ t.p.z = false ∧ t.p.c = true ∧ t.readByte 0x3002 = 0x00 ∧
          t.readByte 0x3003 = 0x40 ∧ t.pc = 0x1004)) = some true := by decide

/-- V209: `asr.w A` (R433). -/
theorem test_V209_asr_w :
    (ran [0xBB, 0x4A] { start with pc := 0x1001, a := { start.a with tos := 0x8001 } }).map (fun t =>
        decide (t.a.tos = 0xC000 ∧ t.p.n = true ∧ t.p.v = false ∧ t.p.z = false ∧ t.p.c = true ∧ t.pc = 0x1002)) = some true := by decide

/-- V217: `adc #$FF` (R445). -/
theorem test_V217_adc :
    (ran [0x69, 0xFF] { start with a := { start.a with tos := 0x0001 }, p := { start.p with c := true } }).map (fun t =>
        decide (t.p.n = false ∧ t.p.v = false ∧ t.p.z = false ∧ t.p.c = true ∧ t.pc = 0x1002)) = some true := by decide

/-- V221: `adc #$28` (R445). -/
theorem test_V221_adc :
    (ran [0x69, 0x28] { start with a := { start.a with tos := 0x0019 }, p := { start.p with d := true } }).map (fun t =>
        decide (t.a.tos = 0x0047 ∧ t.p.n = false ∧ t.p.z = false ∧ t.p.c = false ∧ t.pc = 0x1002)) = some true := by decide

/-- V229: `sbc #$01` (R446). -/
theorem test_V229_sbc :
    (ran [0xE9, 0x01] { start with a := { start.a with tos := 0x0005 }, p := { start.p with c := false } }).map (fun t =>
        decide (t.a.tos = 0x0003 ∧ t.p.n = false ∧ t.p.v = false ∧ t.p.z = false ∧ t.p.c = true ∧ t.pc = 0x1002)) = some true := by decide

/-- V233: `sbc #$25` (R446). -/
theorem test_V233_sbc :
    (ran [0xE9, 0x25]
      { start with a := { start.a with tos := 0x0050 }, p := { start.p with d := true, c := false } }).map (fun t =>
        decide (t.a.tos = 0x0024 ∧ t.p.n = false ∧ t.p.z = false ∧ t.p.c = true ∧ t.pc = 0x1002)) = some true := by decide

/-- V237: `siz cmp #$0001` (R447). -/
theorem test_V237_siz_cmp :
    (ran [0xAB, 0xC9, 0x01, 0x00] { start with pc := 0x1001, a := { start.a with tos := 0x8000 } }).map (fun t =>
        decide (t.p.n = false ∧ t.p.v = true ∧ t.p.z = false ∧ t.p.c = true ∧ t.pc = 0x1004)) = some true := by decide

/-- V241: `oax cpx #$10` (R448). -/
theorem test_V241_oax_cpx :
    (ran [0xEB, 0xE0, 0x10]
      { start with pc := 0x1001, a := { start.a with tos := 0x0010 }, x := { start.x with tos := 0x0020 } }).map (fun t =>
        decide (t.p.n = false ∧ t.p.v = false ∧ t.p.z = true ∧ t.p.c = true ∧ t.pc = 0x1003)) = some true := by decide

/-- V245: `dec $3000` (R451). -/
theorem test_V245_dec :
    (ran [0xCE, 0x00, 0x30] { start with mem := [] }).map (fun t =>
        decide (t.p.n = true ∧ t.p.v = false ∧ t.p.z = false ∧ t.p.c = false ∧ t.readByte 0x3000 = 0xFF ∧
          t.pc = 0x1003)) = some true := by decide

/-- V257: `osx inx` (R454). -/
theorem test_V257_osx_inx :
    (ran [0x8B, 0xE8] { start with pc := 0x1001, sk := 0x01FF }).map (fun t =>
        decide (t.sk = 0x0100 ∧ t.p.v = false ∧ t.p.c = false ∧ t.pc = 0x1002)) = some true := by decide

/-- V261: `add 0,I++` (R460). -/
theorem test_V261_add :
    (ran [0x62, 0x00]
      { start with ip := 0x5000, a := { start.a with tos := 0x00F0 }, p := { start.p with c := true }, mem := [(0x5000, 0x20)] }).map (fun t =>
        decide (t.a.tos = 0x0010 ∧ t.ip = 0x5001 ∧ t.p.n = false ∧ t.p.v = false ∧ t.p.z = false ∧
          t.p.c = true ∧ t.pc = 0x1002)) = some true := by decide

/-- V265: `ind inc A` (R466). -/
theorem test_V265_ind_inc :
    (ran [0x9B, 0x1A] { start with pc := 0x1001, a := { start.a with tos := 0x0001 } }).map (fun t =>
        decide (t.a.tos = 0x0002 ∧ t.p.n = false ∧ t.p.v = false ∧ t.p.z = false ∧ t.p.c = false ∧ t.pc = 0x1002)) = some true := by decide

/-- V285: `siz bpl +2 (bgt)` (R490). -/
theorem test_V285_siz_bpl :
    (ran [0xAB, 0x10, 0x02] { start with pc := 0x1001, p := { start.p with n := true, v := true, z := true } }).map (fun t =>
        decide (t.p.n = true ∧ t.p.v = true ∧ t.p.z = true ∧ t.p.c = false ∧ t.pc = 0x1003)) = some true := by decide

/-- V289: `siz beq +2 (bhs)` (R490). -/
theorem test_V289_siz_beq :
    (ran [0xAB, 0xF0, 0x02] { start with pc := 0x1001, p := { start.p with c := true, z := false } }).map (fun t =>
        decide (t.p.n = false ∧ t.p.v = false ∧ t.p.z = false ∧ t.p.c = true ∧ t.pc = 0x1005)) = some true := by decide

/-- V293: `siz bcc +2 (bls)` (R490). -/
theorem test_V293_siz_bcc :
    (ran [0xAB, 0x90, 0x02] { start with pc := 0x1001, p := { start.p with c := true, z := true } }).map (fun t =>
        decide (t.p.n = false ∧ t.p.v = false ∧ t.p.z = true ∧ t.p.c = true ∧ t.pc = 0x1005)) = some true := by decide

/-- V297: `bbr3 $10,+4` (R495). -/
theorem test_V297_bbr3 :
    (ran [0x3F, 0x10, 0x04] { start with cfg := { start.cfg with variant := .w65c02s }, mem := [(0x0010, 0x08)] }).map (fun t =>
        decide (t.p.n = false ∧ t.p.v = false ∧ t.p.z = false ∧ t.p.c = false ∧ t.pc = 0x1003)) = some true := by decide

/-- V301: `jmp ($20FF)` (R501). -/
theorem test_V301_jmp :
    (ran [0x6C, 0xFF, 0x20] { start with mem := [(0x2000, 0x40), (0x2100, 0x30)] }).map (fun t =>
        decide (t.p.n = false ∧ t.p.v = false ∧ t.p.z = false ∧ t.p.c = false ∧ t.pc = 0x3000)) = some true := by decide

/-- V305: `ind jsr $2000` (R505). -/
theorem test_V305_ind_jsr :
    (ran [0x9B, 0x20, 0x00, 0x20] { start with pc := 0x1001, mem := [(0x2001, 0x30)] }).map (fun t =>
        decide (t.sk = 0x01FD ∧ t.p.n = false ∧ t.p.v = false ∧ t.p.z = false ∧ t.p.c = false ∧
          t.readByte 0x01FF = 0x10 ∧ t.readByte 0x01FE = 0x03 ∧ t.pc = 0x3000)) = some true := by decide

/-- V313: `brk #$00` (R520). -/
theorem test_V313_brk :
    (ran [0x00, 0x00]
      { start with p := { start.p with i := false, d := true, c := true }, mem := [(0xFFFF, 0x80)] }).map (fun t =>
        decide (t.sk = 0x01FC ∧ t.p.d = false ∧ t.p.i = true ∧ t.p.n = false ∧ t.p.v = false ∧ t.p.z = false ∧
          t.p.c = true ∧ t.readByte 0x01FF = 0x10 ∧ t.readByte 0x01FE = 0x01 ∧ t.readByte 0x01FD = 0x39 ∧
          t.pc = 0x8000)) = some true := by decide
/-! ### Addresses, from the spec's vectors -/

/-- The address of a mode's operand, with X, memory and prefix flags given. -/
def addressOf (x : Word) (mem : Memory) (f : PrefixFlags) (m : Mode) : Word :=
  (({ start with a := ⟨0x0003, 0, 0⟩, x := ⟨x, 0, 0⟩, sk := 0x01FD, mem := mem, pre := f } : State).loc m).first

/-- V5 (R140): an index above page 1 is not modulo 256. -/
theorem test_address_V5 : addressOf 0x0205 [] .clear (.zpX 0x10) = 0x0215 := by decide

/-- V9 (R143): `oax` makes A the index. -/
theorem test_address_V9 : addressOf 0x0050 [] { PrefixFlags.clear with oax := true } (.zpX 0x10) = 0x0013 := by decide

/-- V13 (R146): the pointer at 0xFF has its high byte at 0x00. -/
theorem test_address_V13 : addressOf 0 [(0x0000, 0x30), (0x0100, 0x40)] .clear (.zpInd 0xFF) = 0x3000 := by decide

/-- V17 (R152): `ind` makes `(zp,X)` post-indexed. -/
theorem test_address_V17 :
    addressOf 0x0002 [(0x0021, 0x30), (0x3000, 0x10), (0x3001, 0x40)] { PrefixFlags.clear with ind := true }
      (.zpXInd 0x20) = 0x4012 := by decide

/-- V25 (R156): `ind abs,X` is `(abs),X`. -/
theorem test_address_V25 :
    addressOf 0x0003 [(0x3000, 0x10), (0x3001, 0x40)] { PrefixFlags.clear with ind := true } (.absX 0x3000) = 0x4013 := by
  decide

/-- V33 (R160): `ind sp,S`, with S_K at 0x01FD. -/
theorem test_address_V33 :
    addressOf 0 [(0x01FF, 0x30)] { PrefixFlags.clear with ind := true } (.sp 0x00) = 0x3000 := by decide

/-- V37 (R162): `bp,B` has a signed offset. -/
theorem test_address_V37 : addressOf 0x01F0 [] .clear (.bp 0xFE) = 0x01EE := by decide

/-! ### Steps, interrupts and reset -/

/-- R547: `nop` at 0x2000 in User mode, with an interrupt. -/
theorem test_interrupt_R547 :
    (shows (step (at3 0xEA 0 0
      { start with
        pc := 0x2000, su := 0x01E0, mem := [(0xFFFF, 0x50)]
        p := { n := false, v := false, m := false, d := true, i := false, z := true, c := true }
        inputs := [{ Inputs.idle with int := some { kind := .maskable, vector := none } }] })) fun t =>
      decide (t.readByte 0x01FF = 0x20 ∧ t.readByte 0x01FE = 0x00 ∧ t.readByte 0x01FD = 0x0B ∧ t.sk = 0x01FC ∧
        t.su = 0x01E0 ∧ t.p = { n := false, v := false, m := true, d := false, i := true, z := true, c := true } ∧
        t.pc = 0x5000)) = some true := by decide

/-- R536: no interrupt after a branch. -/
theorem test_no_interrupt_after_branch :
    (shows (step (at3 0x80 0x00 0
      { start with inputs := [{ Inputs.idle with int := some { kind := .nonMaskable, vector := none } }] })) fun t =>
      decide (t.pc = 0x1002 ∧ t.sk = 0x01FF ∧ t.inputs = [])) = some true := by decide

/-- R565: `clv` completes, and then the SO request sets V. -/
theorem test_so_after_clv :
    (shows (step (at3 0xB8 0 0 { start with inputs := [{ Inputs.idle with so := true }] })) fun t =>
      (t.p.v, t.soLatch)) = some (true, false) := by decide

/-- R320: a masked request ends `wai` at once, with no handler. -/
theorem test_wai_masked :
    (shows (step (at3 0xCB 0 0 { start with inputs := [{ Inputs.idle with xirq := true }] })) fun t =>
      (t.run, t.pc, t.sk)) = some (.running, 0x1001, 0x01FF) := by decide

/-- R321: `stp`. -/
theorem test_stp :
    (shows (step (at3 0xDB 0 0 start)) fun t => (t.run, t.pc)) = some (.stopped, 0x1001) := by decide

/-- R580, R581: reset leaves the stopped state; S_K is 0x01FF, and A stays. -/
theorem test_reset :
    (shows (step { start with
        run := .stopped, sk := 0x3000, a := ⟨1, 2, 3⟩
        inputs := [{ Inputs.idle with rst := true }] }) fun t =>
      decide (t.run = .running ∧ t.sk = 0x01FF ∧ t.a = ⟨1, 2, 3⟩ ∧ t.p.m = true ∧ t.p.i = true ∧
        t.p.d = false)) = some true := by decide

/-- R190: a prefix is a step of its own, and the next instruction uses it. -/
theorem test_prefix_step :
    (shows (step (at3 0xAB 0xA9 0x34 start)) fun t => (t.pc, t.pre.siz, t.fetch)) =
      some (0x1001, true, .ldaImm (.b16 0x0034)) := by decide

/-- R551: `rti` in User mode leaves M clear. -/
theorem test_rti_user :
    (shows (exec .rti { start with
        su := 0x01F0, p := { start.p with m := false }, mem := [(0x01F1, 0x61), (0x01F2, 0xFF), (0x01F3, 0x20)] }) fun t =>
      (t.p, t.pc, t.su)) =
        some ({ n := false, v := true, m := false, d := false, i := false, z := false, c := true }, 0x2100, 0x01F3) := by
  decide

/-- R442: decimal 99 + 1. -/
theorem test_adc_decimal_carry :
    (shows (exec (.adcImm (.b8 0x01)) { start with a := ⟨0x99, 0, 0⟩, p := { start.p with d := true } }) fun t =>
      (t.a.tos, t.p.z, t.p.c)) = some (0x0000, true, true) := by decide

/-- R441: 0x50 + 0x50 overflows. -/
theorem test_adc_overflow :
    (shows (exec (.adcImm (.b8 0x50)) { start with a := ⟨0x50, 0, 0⟩ }) fun t =>
      (t.a.tos, t.p.n, t.p.v, t.p.z, t.p.c)) = some (0x00A0, true, true, false, false) := by decide

/-- R310 and R312: the two instructions without a described effect. -/
theorem test_stops :
    exec (.cop 0) start = .refused .copUnspecified ∧ exec (.mov 0) start = .refused .movUnspecified := ⟨rfl, rfl⟩

/-- The reset memory is in canonical form. -/
theorem test_reset_mem_wf : State.reset.mem.wf = true := by decide

/-- R44: the reset pc is the word at VEC_RST. -/
theorem test_reset_pc : State.reset.pc = State.reset.pointerAt State.reset.cfg.vecRst := by decide

/-- R36: `php` pushes bit 4 set; the port shows it clear. -/
theorem test_portP : start.portP = 0x24 ∧ start.p.toByte true = 0x34 := by decide

/-- R42: M holds a byte operand zero-extended, and a `rel8` sign-extended; R45: IR is the opcode. -/
theorem test_portM :
    (at3 0xA9 0xFE 0 start).portM = some 0x00FE ∧ (at3 0x80 0xFE 0 start).portM = some 0xFFFE ∧
      (at3 0x8D 0x34 0x12 start).portM = some 0x1234 ∧ (at3 0xEA 0 0 start).portM = none ∧
      (at3 0xA9 0xFE 0 start).portIR = 0xA9 := by decide

/-- R44, R90: power-up over given contents: the pc is the word at VEC_RST. -/
theorem test_powerUp : (State.powerUp [(0xFFFC, 0x34), (0xFFFD, 0x12)]).pc = 0x1234 := by decide

/-- The host's placing of a word at the pc. -/
theorem test_withFetchWord : (State.reset.withFetchWord 24 0x43218D).fetch = .sta (.abs 0x4321) := by decide

/-! ### Witnesses: states and operands that meet the hypotheses of the statements -/

/-- In User mode. -/
def user : State := { start with p := { start.p with m := false } }

/-- Under some prefix flags. -/
def under (f : PrefixFlags) : State := { start with pre := f }

theorem witness_EncodeThenDecode :
    Instr.xai.wellFormed .hll { PrefixFlags.clear with ind := true, siz := true } = true := by decide

theorem witness_DecodeThenEncode : decode .hll .clear [0xA9, 0x12] = .ok (.ldaImm (.b8 0x12), []) := by rfl

theorem witness_PrefixesThenInstruction :
    exclusive { PrefixFlags.clear with oay := true, osx := true } = true ∧
      (Instr.lds (.zpY 0x10)).wellFormed .hll { PrefixFlags.clear with oay := true, osx := true } = true ∧
      Instr.lds (.zpY 0x10) ∉ prefixes := by decide

theorem witness_StepRunsDecoded :
    let s := at3 0xA9 0x12 0 start
    s.run = .running ∧ s.sample.rst = false ∧
      decode s.cfg.variant s.pre [s.readByte s.pc, s.readByte (s.pc + 1), s.readByte (s.pc + 2)] =
        .ok (.ldaImm (.b8 0x12), [0]) := ⟨rfl, rfl, rfl⟩

theorem witness_StepKeepsInv : start.Inv ∧ (shows (step start) id).isSome = true := by
  unfold State.Inv
  decide

/-- Memory with nothing listed, and memory with a vector. -/
theorem witness_ResetValues : Memory.wf [] = true ∧ Memory.wf [(0xFFFC, 0x34), (0xFFFD, 0x12)] = true := by decide

theorem witness_StepKeepsParameters : (shows (step start) id).isSome = true := by decide

/-- `rti` leaves Kernel mode; `brk` and an unmasked request leave User mode. -/
theorem witness_ModeChanges :
    start.p.m = true ∧ (shows (step (at3 0x40 0 0 start)) fun t => t.p.m) = some false ∧
      user.p.m = false ∧ (shows (step (at3 0x00 0 0 user)) fun t => t.p.m) = some true ∧
      (shows (step (at3 0xEA 0 0 { user with
        p := { user.p with i := false }
        inputs := [{ Inputs.idle with int := some { kind := .maskable, vector := none } }] })) fun t => t.p.m) =
          some true := by decide

theorem witness_UserModeCannotTouchKernelStack :
    user.p.m = false ∧ (shows (step (at3 0xEA 0 0 user)) fun t => t.p.m) = some false := by decide

theorem witness_PrefixFlagsEnd :
    (shows (exec .nop start) id).isSome = true ∧ Instr.nop ∉ prefixes ∧
      (shows (exec .osx (under { PrefixFlags.clear with ind := true, siz := true, oay := true, osx := true })) id).isSome
        = true ∧ Instr.osx ∈ prefixes ∧
      (shows (exec .siz (under { PrefixFlags.clear with oax := true })) id).isSome = true ∧
      Instr.siz ∈ [Instr.ind, .siz, .isz, .oax] := by decide

theorem witness_BelowTopMoves :
    Instr.nop ∉ [Instr.dup, .swp, .rot] ∧ (shows (exec .nop start) id).isSome = true := by decide

theorem witness_CompletesUnlessStopped : stops start .nop = false ∧ stops start (.cop 0) = true := by decide

theorem witness_NamedStops :
    (1 : Byte) ≠ 0 ∧ ((Instr.lda (.ip 1)).mode?.map Prod.fst) = some (.ip 1) := by decide

theorem witness_ZeroPageOperand :
    start.pre.ind = false ∧ (under { PrefixFlags.clear with ind := true }).pre.ind = true ∧
      start.pre.siz = false ∧ start.mem.wf = true ∧ (start.loc (.zp 0xFF)).first ≠ (start.loc (.zp 0xFF)).second := by
  decide

/-- Indexes at 0x01FF and 0x0200, in both readings of U7; `siz` may be set. -/
theorem witness_IndexedZeroPage :
    let low : State := { start with x := ⟨0x01FF, 0, 0⟩, y := ⟨0x0200, 0, 0⟩ }
    let kept : State := { low with cfg := { low.cfg with page1Index := .keepPage } }
    low.pre.ind = false ∧ (under { PrefixFlags.clear with siz := true, oax := true }).pre.ind = false ∧
      low.xIndex.toNat < 512 ∧ low.cfg.page1Index = .dropPage ∧ 512 ≤ low.yIndex.toNat ∧
      kept.xIndex.toNat < 512 ∧ kept.cfg.page1Index = .keepPage := by decide

/-- The address `pa` of the pointer of `sp,S` for S_K at 0x01FF, in both readings of U8. -/
theorem witness_IndirectionBeforeIndexing :
    let s := under { PrefixFlags.clear with ind := true }
    let locked : State := { s with cfg := { s.cfg with spSum := .pageLocked } }
    s.pre.ind = true ∧ s.cfg.spSum = .plain ∧ (s.sp s.stackPtr).toNat = 0x01FF ∧
      (0x0200 : Word).toNat = (0x01FF + 1 + 0) % 65536 ∧
      locked.pre.ind = true ∧ locked.cfg.spSum = .pageLocked ∧ locked.stackPtr ≠ .aux ∧
      (locked.sp locked.stackPtr).toNat < 0x0200 ∧
      (0x0100 : Word).toNat = 0x01FF / 256 * 256 + (0x01FF + 1 + 0) % 256 := by decide

/-- The address `pa` of `sp,S` for S_K at 0x01FF, in both readings of U8, and for the auxiliary pointer. -/
theorem witness_AddressesWithoutInd :
    let aux : State := { under { PrefixFlags.clear with osx := true } with x := ⟨0x01FF, 0, 0⟩ }
    start.pre.ind = false ∧ start.cfg.spSum = .plain ∧ start.sp start.stackPtr = 0x01FF ∧
      (0x0200 : Word).toNat = (0x01FF + 1 + 0) % 65536 ∧
      ({ start.cfg with spSum := .pageLocked } : Config).spSum = .pageLocked ∧ start.stackPtr ≠ .aux ∧
      (0x0100 : Word).toNat = 0x01FF / 256 * 256 + (0x01FF + 1 + 0) % 256 ∧
      aux.pre.ind = false ∧ aux.stackPtr = .aux ∧ aux.sp aux.stackPtr = 0x01FF := by decide

theorem witness_Loads :
    (Instr.lda (.ip 0), Reg.a) ∈ loads start (.mem (.ip 0)) ∧ sourceDefined (.mem (.ip 0)) = true ∧
      (Instr.ldsImm (.b8 1), Reg.sp) ∈ loads start (.imm (.b8 1)) ∧ sourceDefined (.imm (.b8 1)) = true := by decide

theorem witness_Stores :
    (Instr.sta (.zp 0xFF), (0 : Word)) ∈ stores start (.zp 0xFF) ∧ modeDefined (.zp 0xFF) = true ∧
      start.mem.wf = true := by decide

theorem witness_Transfers : (Instr.tax, Reg.x, Reg.a) ∈ transfers start := by decide

theorem witness_StackPointerTransfers :
    start.pre.osx = false ∧ (under { PrefixFlags.clear with osx := true }).pre.osx = true := by decide

theorem witness_Logic :
    (Instr.oraImm (.b8 1), LogicOp.ora) ∈ logics (.imm (.b8 1)) ∧ sourceDefined (.imm (.b8 1)) = true := by decide

theorem witness_BitTests : modeDefined (.zp 0x10) = true := by decide

theorem witness_TestAndModify : modeDefined (.zp 0x10) = true ∧ start.mem.wf = true := by decide

theorem witness_BitChanges :
    (Instr.rmb7 0x10, 7, false) ∈ bitChanges 0x10 ∧ start.mem.wf = true ∧ 7 < 8 := by decide

theorem witness_OneEffectInstructions :
    (Instr.clc, { start.p with c := false }) ∈ flagChanges start.p := by decide

theorem witness_ShiftAccumulator : (Instr.asr, ShiftKind.asr) ∈ shiftsAcc := by decide

theorem witness_ShiftWithFreeV :
    (Instr.aslAV, ShiftKind.asl) ∈ [(Instr.aslAV, ShiftKind.asl), (.rolAV, .rol)] := by decide

theorem witness_ShiftMemory :
    (Instr.ror (.zp 1), ShiftKind.ror) ∈ shiftsMem (.zp 1) ∧ modeDefined (.zp 1) = true ∧ start.mem.wf = true := by
  decide

/-- A state with D set. -/
def decimal (wide : Bool) : State :=
  { start with p := { start.p with d := true }, pre := { PrefixFlags.clear with siz := wide } }

theorem witness_BinaryAddSub :
    (Instr.adcImm (.b8 1), false) ∈ addSubs (.imm (.b8 1)) ∧ sourceDefined (.imm (.b8 1)) = true ∧
      start.p.d = false ∧ (decimal true).wide = true := by decide

/-- Valid operands, 0x99, and invalid ones, 0x9A. -/
theorem witness_DecimalAddSub :
    (Instr.sbcImm (.b8 0x99), true) ∈ addSubs (.imm (.b8 0x99)) ∧ sourceDefined (.imm (.b8 0x99)) = true ∧
      (Instr.sbcImm (.b8 0x9A), true) ∈ addSubs (.imm (.b8 0x9A)) ∧ sourceDefined (.imm (.b8 0x9A)) = true ∧
      (decimal false).p.d = true ∧ (decimal false).wide = false ∧ bcdValid 0x99 = true ∧ bcdValid 0x9A = false := by
  decide

theorem witness_Compare :
    (Instr.cpx (.abs 0x2000), Reg.x) ∈ compares start (.mem (.abs 0x2000)) ∧
      sourceDefined (.mem (.abs 0x2000)) = true := by decide

theorem witness_AddSubAtIp :
    (Instr.add 0, false) ∈ [(Instr.add 0, false), (.sub 0, true)] ∧
      ((decimal false).p.d && !(decimal false).wide) = true ∧ (start.p.d && !start.wide) = false := by decide

theorem witness_StepMemory :
    (Instr.inc (.zp 1), (1 : Word)) ∈ stepsMem (.zp 1) ∧ modeDefined (.zp 1) = true ∧ start.mem.wf = true := by decide

theorem witness_StepRegisters :
    (Instr.des, Reg.sp, (-1 : Word)) ∈ stepsReg start ∧
      (Instr.decAC, (-1 : Word), !(Result.of start.wide (start.reg start.accReg)).z) ∈
        [(Instr.incAC, (1 : Word), true), (.decAC, -1, !(Result.of start.wide (start.reg start.accReg)).z)] := by decide

theorem witness_Branches :
    (Instr.bpl 0x80, true) ∈ shortBranches start.p 0x80 ∧ (Instr.jmi 0x8000, false) ∈ longBranches start.p 0x8000 := by
  decide

theorem witness_BitBranches : (Instr.bbs7 0x10 0xFD, 7, true) ∈ bitBranches 0x10 0xFD := by decide

theorem witness_CallAndReturn : start.mem.wf = true := by decide

theorem witness_ReturnAfterCall :
    start.mem.wf = true ∧ start.pre.osx = false ∧ start.modePtr.locked (start.sp start.modePtr) = true ∧
      0x0202 ≤ (({ start with sk := 0x0202 } : State).sp .kernel).toNat := by decide

theorem witness_Traps :
    start.mem.wf = true ∧ Instr.unassigned82 ∈ unassigneds ∧ start.cfg.unusedOpcode = .nop1 ∧
      ({ start.cfg with unusedOpcode := .invTrap } : Config).unusedOpcode = .invTrap := by decide

/-- A presented vector, and none, of both kinds. -/
theorem witness_InterruptEntry :
    let presented : IntRequest := { kind := .maskable, vector := some 0x5000 }
    let irq : IntRequest := { kind := .maskable, vector := none }
    let nmi : IntRequest := { kind := .nonMaskable, vector := none }
    start.mem.wf = true ∧ presented.vector = some 0x5000 ∧ irq.vector = none ∧ irq.kind = .maskable ∧
      nmi.vector = none ∧ nmi.kind = .nonMaskable := by decide

theorem witness_InterruptThenReturn :
    start.mem.wf = true ∧ start.pre = .clear ∧ StackPtr.kernel.locked start.sk = true ∧
      0x0203 ≤ (0x0203 : Word).toNat := by decide

/-- The opcodes after which no interrupt is taken: `bra` in both variants, 0x0F in one of them, `nop` in none; masked
and unmasked requests; the three run states. -/
theorem witness_BoundaryRules :
    let blocked (v : Variant) (op : Byte) : Prop :=
      op ∈ ([0x8B, 0x9B, 0xAB, 0xBB, 0xEB, 0xFB] : List Byte) ∨
        op ∈ ([0x10, 0x30, 0x50, 0x70, 0x80, 0x90, 0xB0, 0xD0, 0xF0] : List Byte) ∨
        (v = .w65c02s ∧ op.toNat % 16 = 15) ∨ op ∈ ([0x4C, 0x6C, 0x7C, 0x20, 0x78, 0x58] : List Byte)
    let irq : IntRequest := { kind := .maskable, vector := none }
    let unmasked : Psw := { start.p with i := false }
    blocked .hll 0x80 ∧ blocked .w65c02s 0x0F ∧ ¬ blocked .hll 0x0F ∧ ¬ blocked .w65c02s 0xEA ∧
      start.run = .running ∧ start.p.i = true ∧ unmasked.i = false ∧ Inputs.idle.int = none ∧
      ({ Inputs.idle with int := some irq } : Inputs).int = some irq ∧ irq.kind = .maskable ∧
      ({ Inputs.idle with xirq := true } : Inputs).xirq = true ∧ Inputs.idle.xirq = false ∧
      ({ start with run := .stopped } : State).run = .stopped ∧
      ({ start with run := .waiting } : State).run = .waiting := by decide

theorem witness_WaitAndStop :
    let asks (x : Inputs) (i : Bool) (r : RunState) : State :=
      { start with inputs := [x], run := r, p := { start.p with i := i } }
    let r : IntRequest := { kind := .maskable, vector := none }
    (asks .idle true .stopped).sample.rst = false ∧ (asks .idle true .stopped).run = .stopped ∧
      (asks .idle true .waiting).sample.int = none ∧ (asks .idle true .waiting).sample.xirq = false ∧
      (asks { Inputs.idle with xirq := true } true .waiting).sample.xirq = true ∧
      (asks { Inputs.idle with xirq := true } false .waiting).p.i = false ∧
      (asks { Inputs.idle with int := some r } true .waiting).sample.int = some r ∧
      (asks { Inputs.idle with int := some r } false .waiting).p.i = false := by decide

theorem witness_ResetSequence :
    start.mem.wf = true ∧ ({ start with inputs := [{ Inputs.idle with rst := true }] } : State).sample.rst = true := by
  decide

theorem witness_StackPointerSteps :
    StackPtr.kernel ≠ .aux ∧ (0x01FF : Word).toNat < 0x0200 ∧ 0x0200 ≤ (0x0200 : Word).toNat := by decide

theorem witness_PushesAndPulls : start.mem.wf = true := by decide

theorem witness_RegisterPushes : start.mem.wf = true ∧ (Instr.pha, Reg.a) ∈ pushes start := by decide

theorem witness_RegisterPulls :
    (Instr.pla, Reg.a) ∈ pulls start ∧ Reg.a.field start ≠ start.stackPtr.field := by decide

theorem witness_WordPushesAndPulls : start.mem.wf = true ∧ modeDefined (.abs 0xFFFF) = true := by decide

theorem witness_AdjustAndExchange : start.mem.wf = true := by decide

theorem witness_RegisterStackMoves :
    (Instr.dup, fun (r : RegStack) => (⟨r.tos, r.tos, r.nos⟩ : RegStack)) ∈
      [(Instr.dup, fun (r : RegStack) => (⟨r.tos, r.tos, r.nos⟩ : RegStack)), (.swp, fun r => ⟨r.nos, r.tos, r.bos⟩),
        (.rot, fun r => ⟨r.nos, r.bos, r.tos⟩)] := .head _

theorem witness_AccumulatorAndIp :
    (under { PrefixFlags.clear with oax := true }).pre.oax = true ∧ start.pre.oax = false ∧ start.pre.oay = false ∧
      Instr.tai ∈ [Instr.tai, .tia, .xai, .bsw, .rev] := by decide

theorem witness_NextAndEnter :
    (Instr.nxtItc, true) ∈ [(Instr.nxt, false), (.nxtItc, true)] ∧
      (Instr.ent, false) ∈ [(Instr.ent, false), (.entItc, true)] ∧ start.mem.wf = true := by decide

theorem witness_PushAndPullIpW :
    start.mem.wf = true ∧ (Instr.phi, start.ip) ∈ [(Instr.phi, start.ip), (.phw, start.w)] ∧
      (Instr.plw, Field.w) ∈ [(Instr.pli, Field.ip), (.plw, .w)] := by decide

end Sys2Proof.Tests
end

section
/-!
SUPPORT. Properties of the state that an answer leads to: one rule for each shared operation that answers, from its
equation in Laws/Ops.lean; and what a step can do, said once.
-/

namespace Sys2Proof.Machine

/-- If the answer is a next state, that state has the property. -/
def NextHas (Q : State → Prop) (r : Answer) : Prop := ∀ t, r = .next t → Q t

section Rules

variable {Q : State → Prop} {s u : State}

theorem nextHas_next : NextHas Q (.next u) ↔ Q u := by
  simp [NextHas]

theorem nextHas_refused {r : Refusal} : NextHas Q (.refused r) := by
  simp [NextHas]

theorem nextHas_ite {c : Prop} [Decidable c] {q r : Answer} (hq : c → NextHas Q q) (hr : ¬ c → NextHas Q r) :
    NextHas Q (if c then q else r) := by
  split
  next hc => exact hq hc
  next hc => exact hr hc

theorem nextHas_withMode {m : Mode} {body : State → Loc → State} :
    NextHas Q (s.withMode m body) ↔
      (modeDefined m = true → Q ((body (s.past m) (s.loc m)).retire (modeSize m))) := by
  simp [NextHas, State.withMode_next]

theorem nextHas_immediate {imm : Imm} {use : State → Word → State} :
    NextHas Q (s.immediate imm use) ↔ Q ((use s imm.value).retire (1 + imm.size)) :=
  nextHas_next

theorem nextHas_done : NextHas Q s.done ↔ Q (s.retire 1) :=
  nextHas_next

theorem nextHas_onlyA :
    NextHas Q (s.onlyA u) ↔ ((s.pre.oax || s.pre.oay) = false → Q (u.retire 1)) := by
  simp only [NextHas, State.onlyA_next, and_imp, forall_eq_apply_imp_iff]

theorem nextHas_unassigned :
    NextHas Q s.unassigned ↔
      (s.cfg.unusedOpcode = .nop1 → Q (s.retire 1)) ∧
        (s.cfg.unusedOpcode = .invTrap → Q (s.enter (s.pcNext 1 - 1) false s.cfg.vecInv)) := by
  simp [NextHas, State.unassigned_next, or_imp, forall_and]

end Rules

/-- What a step that goes on has done (R533): the reset sequence (R580); or nothing, stopped (R321); or a look at the
events, waiting (R320); or the fetched instruction and the boundary after it. -/
theorem step_next {s t : State} (h : step s = .next t) :
    (s.sample.rst = true ∧ t = s.sampled.resetSequence) ∨
      (s.sample.rst = false ∧
        ((s.run = .stopped ∧ t = s.sampled) ∨
          (s.run = .waiting ∧ t = s.sampled.wait s.sample) ∨
          (s.run = .running ∧
            ∃ u, exec s.fetch s.sampled = .next u ∧ t = u.boundary s.opcode s.sample))) := by
  simp only [step, State.sampled_run] at h
  split at h
  next hrst => exact .inl ⟨hrst, (Host.Outcome.next.inj h).symm⟩
  next hrst =>
    refine .inr ⟨Bool.eq_false_iff.2 hrst, ?_⟩
    split at h
    next hrun => exact .inl ⟨hrun, (Host.Outcome.next.inj h).symm⟩
    next hrun => exact .inr (.inl ⟨hrun, (Host.Outcome.next.inj h).symm⟩)
    next hrun =>
      split at h
      next u hu => exact .inr (.inr ⟨hrun, u, hu, (Host.Outcome.next.inj h).symm⟩)
      all_goals cases h

end Sys2Proof.Machine
end

section
/-!
SUPPORT. What the machine is given and never writes: the parameters, and the input records of the steps to come. Every
operation, every instruction and the boundary leave both as they are; sampling takes one record.
-/

namespace Sys2Proof.Machine

/-- What the machine is given: the parameters (R9), and the input records of the steps to come (R40, log 11). -/
def State.env (s : State) : Config × List Inputs := (s.cfg, s.inputs)

theorem State.env_eq {s : State} {c : Config} {l : List Inputs} : s.env = (c, l) ↔ s.cfg = c ∧ s.inputs = l :=
  Prod.mk_inj

/-! ### Memory, registers, flags and stacks -/

@[simp] theorem State.setP_env (s : State) (p : Psw) : (s.setP p).env = s.env := rfl
@[simp] theorem State.writeByte_env (s : State) (a : Word) (v : Byte) : (s.writeByte a v).env = s.env := rfl
@[simp] theorem State.writePair_env (s : State) (l : Loc) (v : Word) : (s.writePair l v).env = s.env := rfl
@[simp] theorem State.drawn_env (s : State) (k : Nat) : (s.drawn k).env = s.env := rfl
@[simp] theorem State.retire_env (s : State) (n : Nat) : (s.retire n).env = s.env := rfl
@[simp] theorem State.jump_env (s : State) (a : Word) : (s.jump a).env = s.env := rfl
@[simp] theorem State.setNZ_env (s : State) (v : Word) : (s.setNZ v).env = s.env := rfl
@[simp] theorem State.freeNZ_env (s : State) : s.freeNZ.env = s.env := rfl
@[simp] theorem State.freeV_env (s : State) : s.freeV.env = s.env := rfl
@[simp] theorem State.setC_env (s : State) (c : Bool) : (s.setC c).env = s.env := rfl
@[simp] theorem State.setCV_env (s : State) (c v : Bool) : (s.setCV c v).env = s.env := rfl

@[simp] theorem State.writeOp_env (s : State) (wide : Bool) (l : Loc) (v : Word) :
    (s.writeOp wide l v).env = s.env := by simp [State.env]

@[simp] theorem State.setTransferSp_env (s : State) (v : Word) : (s.setTransferSp v).env = s.env := by
  simp [State.env]

@[simp] theorem State.setReg_env (s : State) (r : Reg) (v : Word) : (s.setReg r v).env = s.env := by
  simp [State.env]

@[simp] theorem State.load_env (s : State) (r : Reg) (v : Word) : (s.load r v).env = s.env := by
  simp [State.env]

@[simp] theorem State.past_env (s : State) (m : Mode) : (s.past m).env = s.env := by
  simp [State.env]

@[simp] theorem State.mapStack_env (s : State) (f : RegStack → RegStack) : (s.mapStack f).env = s.env := by
  unfold State.mapStack
  split
  · rfl
  · split <;> rfl

@[simp] theorem State.setSp_env (s : State) (k : StackPtr) (v : Word) : (s.setSp k v).env = s.env := by
  simp [State.env]

@[simp] theorem State.push8_env (s : State) (k : StackPtr) (v : Byte) : (s.push8 k v).env = s.env := by
  simp [State.env]

@[simp] theorem State.push16_env (s : State) (k : StackPtr) (v : Word) : (s.push16 k v).env = s.env := by
  simp [State.env]

@[simp] theorem State.pulled8_env (s : State) (k : StackPtr) : (s.pulled8 k).env = s.env := by
  simp [State.env]

@[simp] theorem State.pulled16_env (s : State) (k : StackPtr) : (s.pulled16 k).env = s.env := by
  simp [State.env]

/-! ### The operations of single families -/

@[simp] theorem State.shiftAcc_env (s : State) (k : ShiftKind) : (s.shiftAcc k).env = s.env := by
  simp [State.shiftAcc]

@[simp] theorem State.takeSum_env (s : State) (r : Sum) : (s.takeSum r).env = s.env := by
  simp [State.takeSum]

@[simp] theorem State.takeUnruled_env (s : State) : s.takeUnruled.env = s.env := by
  simp [State.takeUnruled]

@[simp] theorem State.decimalWith_env (s : State) (f : Byte → Byte → Bool → DecSum) (v : Word) :
    (s.decimalWith f v).env = s.env := by
  simp only [State.decimalWith]
  split
  · simp [State.takeDecimal]
  · simp [State.takeInvalid]

@[simp] theorem State.addCarry_env (s : State) (v : Word) : (s.addCarry v).env = s.env := by
  unfold State.addCarry
  split <;> simp

@[simp] theorem State.subCarry_env (s : State) (v : Word) : (s.subCarry v).env = s.env := by
  unfold State.subCarry
  split <;> simp

@[simp] theorem State.addPlain_env (s : State) (r : Sum) : (s.addPlain r).env = s.env := by
  unfold State.addPlain
  split <;> simp

@[simp] theorem State.compare_env (s : State) (r : Reg) (v : Word) : (s.compare r v).env = s.env := rfl

@[simp] theorem State.stepReg_env (s : State) (r : Reg) (k : Word) : (s.stepReg r k).env = s.env := by
  simp [State.stepReg]

@[simp] theorem State.logic_env (s : State) (op : LogicOp) (v : Word) : (s.logic op v).env = s.env := by
  simp [State.logic]

@[simp] theorem State.testBits_env (s : State) (v : Word) : (s.testBits v).env = s.env := rfl

@[simp] theorem State.copyTopBits_env (s : State) (v : Word) : (s.copyTopBits v).env = s.env := rfl

@[simp] theorem State.transfer_env (s : State) (dst src : Reg) : (s.transfer dst src).env = s.env := by
  simp [State.transfer]

@[simp] theorem State.pushReg_env (s : State) (r : Reg) : (s.pushReg r).env = s.env := by
  unfold State.pushReg
  split <;> simp

@[simp] theorem State.pullReg_env (s : State) (r : Reg) : (s.pullReg r).env = s.env := by
  unfold State.pullReg
  split <;> simp

@[simp] theorem State.nextWord_env (s : State) (itc : Bool) : (s.nextWord itc).env = s.env := rfl

@[simp] theorem State.enterWord_env (s : State) (itc : Bool) : (s.enterWord itc).env = s.env := by
  rw [State.enterWord, State.nextWord_env]
  exact s.push16_env ..

/-! ### Traps, interrupts, reset and the boundary -/

@[simp] theorem State.enter_env (s : State) (ret : Word) (bit4 : Bool) (vector : Word) :
    (s.enter ret bit4 vector).env = s.env := by
  simp [State.enter]

@[simp] theorem State.returnFrom_env (s : State) (k : StackPtr) : (s.returnFrom k).env = s.env := by
  simp [State.returnFrom]

@[simp] theorem State.resetSequence_env (s : State) : s.resetSequence.env = s.env := by
  simp [State.resetSequence, State.env]

@[simp] theorem State.applySo_env (s : State) : s.applySo.env = s.env := by
  unfold State.applySo
  split <;> rfl

@[simp] theorem State.takeInterrupt_env (s : State) (r : IntRequest) : (s.takeInterrupt r).env = s.env := by
  simpa [State.takeInterrupt, State.env] using s.enter_env (s.pc - 1) false (s.vectorOf r)

@[simp] theorem State.wait_env (s : State) (inp : Inputs) : (s.wait inp).env = s.env := by
  unfold State.wait
  split
  · simp
  · split
    · exact s.applySo_env
    · rfl

@[simp] theorem State.boundary_env (s : State) (op : Byte) (inp : Inputs) : (s.boundary op inp).env = s.env := by
  simp only [State.boundary]
  split
  next => exact s.applySo_env
  next => simp
  next =>
    split
    · split <;> simp
    · exact s.applySo_env

theorem State.sampled_env (s : State) : s.sampled.env = (s.cfg, s.inputs.tail) := rfl

/-! ### Instructions -/

/-- If the answer is a next state, it is given what `s` is given. -/
abbrev KeepsEnv (s : State) : Answer → Prop := NextHas fun t => t.env = s.env

theorem keepsEnv_withMode {s : State} {m : Mode} {body : State → Loc → State}
    (h : ∀ u l, (body u l).env = u.env) : KeepsEnv s (s.withMode m body) :=
  nextHas_withMode.2 fun _ => by simp [h]

theorem keepsEnv_reading {s : State} {m : Mode} {use : State → Word → State}
    (h : ∀ u v, (use u v).env = u.env) : KeepsEnv s (s.reading m use) :=
  keepsEnv_withMode fun u _ => h u _

theorem keepsEnv_writing {s : State} {m : Mode} {v : Word} : KeepsEnv s (s.writing m v) :=
  keepsEnv_withMode fun u _ => u.writeOp_env ..

theorem keepsEnv_changing {s : State} {m : Mode} {f : Word → Word} {use : State → Word → State}
    (h : ∀ u v, (use u v).env = u.env) : KeepsEnv s (s.changing m f use) :=
  keepsEnv_withMode fun u _ => by simp [h]

theorem keepsEnv_shiftMem {s : State} {k : ShiftKind} {m : Mode} : KeepsEnv s (s.shiftMem k m) :=
  keepsEnv_changing (by simp)

theorem keepsEnv_stepMem {s : State} {m : Mode} {k : Word} : KeepsEnv s (s.stepMem m k) :=
  keepsEnv_changing (by simp)

theorem keepsEnv_immediate {s : State} {imm : Imm} {use : State → Word → State}
    (h : ∀ u v, (use u v).env = u.env) : KeepsEnv s (s.immediate imm use) :=
  nextHas_immediate.2 (h s _)

theorem keepsEnv_done {s u : State} (h : u.env = s.env) : KeepsEnv s u.done :=
  nextHas_done.2 h

theorem keepsEnv_onlyA {s u : State} (h : u.env = s.env) : KeepsEnv s (s.onlyA u) :=
  nextHas_onlyA.2 fun _ => h

theorem keepsEnv_unassigned {s : State} : KeepsEnv s s.unassigned :=
  nextHas_unassigned.2 ⟨fun _ => rfl, fun _ => s.enter_env ..⟩

/-- No instruction writes what the machine is given: the instructions by the shape in which they use their operand. -/
theorem exec_keepsEnv (i : Instr) (s : State) : KeepsEnv s (exec i s) := by
  unfold exec
  cases i with
  -- an operand read from memory
  | ora m | and m | eor m | bit m | lda m | ldx m | ldy m | lds m | adc m | sbc m | cmp m | cpx m | cpy m | cps m
  | add m | sub m => exact keepsEnv_reading (by simp)
  -- an immediate operand
  | oraImm imm | andImm imm | eorImm imm | bitImm imm | ldaImm imm | ldxImm imm | ldyImm imm | ldsImm imm
  | adcImm imm | sbcImm imm | cmpImm imm | cpxImm imm | cpyImm imm | cpsImm imm =>
    exact keepsEnv_immediate (by simp)
  -- an operand written, or changed in place
  | sta m | stx m | sty m | stz m | sts m => exact keepsEnv_writing
  | tsb m | trb m => exact keepsEnv_changing (by simp)
  | asl m | rol m | lsr m | ror m => exact keepsEnv_shiftMem
  | inc m | dec m => exact keepsEnv_stepMem
  | rmb0 zp | rmb1 zp | rmb2 zp | rmb3 zp | rmb4 zp | rmb5 zp | rmb6 zp | rmb7 zp
  | smb0 zp | smb1 zp | smb2 zp | smb3 zp | smb4 zp | smb5 zp | smb6 zp | smb7 zp => exact nextHas_next.2 rfl
  | psh m | pul m | xma m => exact keepsEnv_withMode (by simp)
  -- one byte: accumulator, registers, flags, pushes and pulls, run state
  | aslA | rolA | lsrA | rorA | asr | asrW | aslAV | rolAV
  | incA | decA | inx | dex | iny | dey | ins | des | incAC | decAC
  | tax | txa | tay | tya | tas | tsa | dup | swp | rot
  | clc | sec | cli | sei | clv | cld | sed
  | pha | phx | phy | phs | pla | plx | ply | pls | php | plp | phi | phw | nop => exact keepsEnv_done (by simp)
  | pli | plw => exact keepsEnv_done (s.pulled16_env _)
  | ini | inw | wai | stp => exact keepsEnv_done rfl
  -- the forms that some prefix stops, and the prefixes
  | txs | tsx => exact nextHas_ite (fun _ => nextHas_refused) fun _ => keepsEnv_done (by simp)
  | tai | tia | xai | bsw | rev => exact keepsEnv_onlyA rfl
  | ind | siz | isz | oax | oay | osx => exact nextHas_next.2 rfl
  -- 16-bit pushes and the stack frame
  | pshImm imm | phr imm | adj imm => exact nextHas_next.2 (by simp)
  -- control
  | bpl rel | bmi rel | bvc rel | bvs rel | bra rel | bcc rel | bcs rel | bne rel | beq rel
  | ble rel | bgt rel | blt rel | bge rel | bhs rel | blo rel | bhi rel | bls rel
  | jpl rel | jmi rel | jvc rel | jvs rel | jrl rel | jcc rel | jcs rel | jne rel | jeq rel
  | jle rel | jgt rel | jlt rel | jge rel | jhs rel | jlo rel | jhi rel | jls rel
  | bbr0 zp rel | bbr1 zp rel | bbr2 zp rel | bbr3 zp rel | bbr4 zp rel | bbr5 zp rel | bbr6 zp rel | bbr7 zp rel
  | bbs0 zp rel | bbs1 zp rel | bbs2 zp rel | bbs3 zp rel | bbs4 zp rel | bbs5 zp rel | bbs6 zp rel | bbs7 zp rel
  | jmpAbs abs | jmpInd abs | jmpIndX abs | nxt | nxtItc => exact nextHas_next.2 rfl
  | jsr abs => exact nextHas_next.2 (s.push16_env ..)
  | rts => exact nextHas_next.2 (s.pulled16_env _)
  | rti => exact nextHas_next.2 (s.returnFrom_env _)
  | brk imm => exact nextHas_next.2 (s.enter_env ..)
  | ent | entItc => exact nextHas_next.2 (s.enterWord_env _)
  | unassigned82 | unassigned6F | unassigned8F | unassignedAF => exact keepsEnv_unassigned
  -- the instructions without a described effect
  | cop imm | mov imm => exact nextHas_refused

/-- A step takes one record of what the machine is given, and leaves the rest as it is. -/
theorem step_env {s t : State} (h : step s = .next t) : t.env = s.sampled.env := by
  obtain ⟨-, rfl⟩ | ⟨-, ⟨-, rfl⟩ | ⟨-, rfl⟩ | ⟨-, u, hu, rfl⟩⟩ := step_next h
  · exact s.sampled.resetSequence_env
  · rfl
  · exact s.sampled.wait_env _
  · exact (u.boundary_env ..).trans (exec_keepsEnv s.fetch s.sampled u hu)

/-- Settles O9: no instruction and no event at the boundary writes the parameters or the inputs, and sampling takes
the first record. -/
theorem stepKeepsParameters : Obligations.StepKeepsParameters := by
  unfold Obligations.StepKeepsParameters
  intro s t h
  exact State.env_eq.1 ((step_env h).trans s.sampled_env)

end Sys2Proof.Machine
end

section
/-!
SUPPORT. The state after reset and power-up, and which register each role is.
-/

namespace Sys2Proof.Machine

/-! ### Reset and power-up -/

theorem reset_eq_powerUp : State.reset = State.powerUp [] := rfl

/-- What power-up leaves, of the values that R44 names, but for the pc. -/
theorem State.powerUp_values (contents : Memory) :
    (State.powerUp contents).p.m = true ∧ (State.powerUp contents).p.i = true ∧
      (State.powerUp contents).p.d = false ∧ (State.powerUp contents).sk = 0x01FF ∧
      (State.powerUp contents).pre = .clear ∧ (State.powerUp contents).run = .running ∧
      (State.powerUp contents).soLatch = false := ⟨rfl, rfl, rfl, rfl, rfl, rfl, rfl⟩

theorem State.powerUp_mem (contents : Memory) : (State.powerUp contents).mem = contents := rfl

theorem State.powerUp_pc (contents : Memory) :
    (State.powerUp contents).pc = (State.powerUp contents).pointerAt (State.powerUp contents).cfg.vecRst := rfl

theorem State.powerUp_inv {contents : Memory} (h : contents.wf = true) : (State.powerUp contents).Inv :=
  ⟨h, rfl, fun _ => rfl⟩

/-- Settles O7: reset is power-up over memory with no byte listed. -/
theorem resetInv : Obligations.ResetInv := by
  unfold Obligations.ResetInv
  rw [reset_eq_powerUp]
  exact State.powerUp_inv rfl

/-- Settles O8: power-up writes the values and takes the memory as it is given. -/
theorem resetValues : Obligations.ResetValues := by
  unfold Obligations.ResetValues
  refine ⟨reset_eq_powerUp, fun contents hwf => ?_⟩
  obtain ⟨hm, hi, hd, hsk, hpre, hrun, hso⟩ := State.powerUp_values contents
  exact ⟨hm, hi, hd, hsk, hpre, hrun, hso, State.powerUp_pc contents, State.powerUp_inv hwf, fun a => rfl⟩

/-! ### Roles -/

theorem biasWord_eq (b : Bias) : biasWord b = if b = .one then 1 else 0 := by
  cases b <;> rfl

theorem State.reg_accReg (s : State) :
    s.reg s.accReg = if s.pre.oax then s.x.tos else if s.pre.oay then s.y.tos else s.a.tos := by
  unfold State.accReg
  split
  next => rfl
  next => split <;> rfl

theorem State.reg_xReg (s : State) :
    s.reg s.xReg = if s.pre.oax then s.a.tos else if s.pre.osx then s.sys else s.x.tos := by
  unfold State.xReg
  split
  next => rfl
  next => split <;> rfl

theorem State.reg_yReg (s : State) : s.reg s.yReg = if s.pre.oay then s.a.tos else s.y.tos := by
  unfold State.yReg
  split <;> rfl

theorem State.xIndex_eq (s : State) :
    s.xIndex = if s.pre.oax then s.a.tos
      else if s.pre.osx ∧ s.cfg.osxIndex = .substitute then s.sys + biasWord s.cfg.osxIndexBias
      else s.x.tos := by
  unfold State.xIndex
  cases s.pre.osx <;> cases s.cfg.osxIndex <;> simp

theorem State.bpBase_eq (s : State) :
    s.bpBase = if s.pre.oax = false ∧ s.pre.osx ∧ s.cfg.osxBase = .stackRelative then s.sys + 1
      else (if s.pre.oax then s.a.tos else s.x.tos) + biasWord s.cfg.bpBias := by
  unfold State.bpBase
  cases s.pre.oax <;> cases s.pre.osx <;> cases s.cfg.osxBase <;> simp

theorem State.sp_modePtr (s : State) : s.sp s.modePtr = s.sys := by
  unfold State.modePtr State.sys
  split <;> rfl

theorem State.sp_stackPtr (s : State) : s.sp s.stackPtr = if s.pre.osx then s.x.tos else s.sys := by
  rw [← s.sp_modePtr]
  unfold State.stackPtr
  split <;> rfl

theorem State.sp_vmPtr (s : State) : s.sp s.vmPtr = if s.pre.osx then s.sys else s.x.tos := by
  rw [← s.sp_modePtr]
  unfold State.vmPtr
  split <;> rfl

/-- Settles O16: the equation of each role. -/
theorem registerRoles : Obligations.RegisterRoles := by
  unfold Obligations.RegisterRoles
  intro s
  refine ⟨s.reg_accReg, s.reg_xReg, s.reg_yReg, ?_, rfl, ?_, s.sp_stackPtr, s.sp_vmPtr⟩
  · rw [← biasWord_eq]
    exact s.xIndex_eq
  · rw [← biasWord_eq]
    exact s.bpBase_eq

/-! ### The fetch -/

/-- When the bytes at the pc decode to an instruction, it is the one that the step fetches (R71, R102). -/
theorem State.fetch_of_decode {s : State} {i : Instr} {rest : List Byte}
    (h : decode s.cfg.variant s.pre [s.readByte s.pc, s.readByte (s.pc + 1), s.readByte (s.pc + 2)] = .ok (i, rest)) :
    s.fetch = i := by
  simp only [decode] at h
  split at h
  next => cases h
  next => exact congrArg Prod.fst (Except.ok.inj h)

/-- A step of a running core without a reset request: the fetched instruction, and the boundary after it (R533). -/
theorem step_of_running {s : State} (hrun : s.run = .running) (hrst : s.sample.rst = false) :
    step s =
      match exec s.fetch s.sampled with
      | .next u => .next (u.boundary s.opcode s.sample)
      | .fault r => .fault r
      | .refused r => .refused r := by
  simp only [step, State.sampled_run, hrun, hrst] <;> rfl

/-- Settles O5: the fetch reads the bytes that `decode` reads. -/
theorem stepRunsDecoded : Obligations.StepRunsDecoded := by
  unfold Obligations.StepRunsDecoded
  intro s i rest hrun hrst hdec
  obtain rfl := State.fetch_of_decode hdec
  exact step_of_running hrun hrst

end Sys2Proof.Machine
end

section
/-!
SUPPORT. What all instructions but a few have in common: they keep the mode and the lower elements of the register
stacks, and in User mode they neither read nor write S_K. `exec_ordinary` says it once, the instructions by the shape in
which they use their operand; it rests on two lemmas for each operation, one for each of the two facts.
-/

namespace Sys2Proof.Machine

/-- NOS and BOS of the three register stacks (R21). -/
def State.lower (s : State) : (Word × Word) × (Word × Word) × (Word × Word) :=
  ((s.a.nos, s.a.bos), (s.x.nos, s.x.bos), (s.y.nos, s.y.bos))

theorem State.lower_eq {s t : State} :
    t.lower = s.lower ↔ t.a.nos = s.a.nos ∧ t.a.bos = s.a.bos ∧ t.x.nos = s.x.nos ∧ t.x.bos = s.x.bos ∧
      t.y.nos = s.y.nos ∧ t.y.bos = s.y.bos := by
  simp [State.lower, and_assoc]

/-- What an ordinary instruction keeps: the mode (R37), and the lower elements of the register stacks. -/
def State.held (s : State) : Bool × (Word × Word) × (Word × Word) × (Word × Word) := (s.p.m, s.lower)

theorem State.held_eq {s t : State} : t.held = s.held ↔ t.p.m = s.p.m ∧ t.lower = s.lower :=
  Prod.mk_inj

/-- In User mode, the state with another value of S_K; in Kernel mode, the state itself. -/
def State.hideSk (s : State) (k : Word) : State := { s with sk := if s.p.m then s.sk else k }

theorem State.hideSk_user {s : State} (h : s.p.m = false) (k : Word) : s.hideSk k = { s with sk := k } := by
  simp [State.hideSk, h]

theorem State.hideSk_kernel {s : State} (h : s.p.m = true) (k : Word) : s.hideSk k = s := by
  simp [State.hideSk, h]

/-! ### What S_K does not reach: the pieces of the state -/

section Reads

variable (s : State) (k : Word)

@[simp] theorem State.hideSk_a : (s.hideSk k).a = s.a := rfl
@[simp] theorem State.hideSk_x : (s.hideSk k).x = s.x := rfl
@[simp] theorem State.hideSk_y : (s.hideSk k).y = s.y := rfl
@[simp] theorem State.hideSk_su : (s.hideSk k).su = s.su := rfl
@[simp] theorem State.hideSk_ip : (s.hideSk k).ip = s.ip := rfl
@[simp] theorem State.hideSk_w : (s.hideSk k).w = s.w := rfl
@[simp] theorem State.hideSk_pc : (s.hideSk k).pc = s.pc := rfl
@[simp] theorem State.hideSk_p : (s.hideSk k).p = s.p := rfl
@[simp] theorem State.hideSk_pre : (s.hideSk k).pre = s.pre := rfl
@[simp] theorem State.hideSk_run : (s.hideSk k).run = s.run := rfl
@[simp] theorem State.hideSk_soLatch : (s.hideSk k).soLatch = s.soLatch := rfl
@[simp] theorem State.hideSk_mem : (s.hideSk k).mem = s.mem := rfl
@[simp] theorem State.hideSk_inputs : (s.hideSk k).inputs = s.inputs := rfl
@[simp] theorem State.hideSk_free : (s.hideSk k).free = s.free := rfl
@[simp] theorem State.hideSk_cfg : (s.hideSk k).cfg = s.cfg := rfl

/-! ### What S_K does not reach: values that instructions read -/

@[simp] theorem State.wide_hideSk : (s.hideSk k).wide = s.wide := rfl
@[simp] theorem State.decimal_hideSk : (s.hideSk k).decimal = s.decimal := rfl
@[simp] theorem State.pcNext_hideSk (n : Nat) : (s.hideSk k).pcNext n = s.pcNext n := rfl
@[simp] theorem State.freeBit_hideSk (n : Nat) : (s.hideSk k).freeBit n = s.freeBit n := rfl
@[simp] theorem State.freeWord_hideSk (n : Nat) : (s.hideSk k).freeWord n = s.freeWord n := rfl
@[simp] theorem State.accReg_hideSk : (s.hideSk k).accReg = s.accReg := rfl
@[simp] theorem State.xReg_hideSk : (s.hideSk k).xReg = s.xReg := rfl
@[simp] theorem State.yReg_hideSk : (s.hideSk k).yReg = s.yReg := rfl
@[simp] theorem State.yIndex_hideSk : (s.hideSk k).yIndex = s.yIndex := rfl
@[simp] theorem State.stackPtr_hideSk : (s.hideSk k).stackPtr = s.stackPtr := rfl
@[simp] theorem State.vmPtr_hideSk : (s.hideSk k).vmPtr = s.vmPtr := rfl
@[simp] theorem State.readByte_hideSk (a : Word) : (s.hideSk k).readByte a = s.readByte a := rfl
@[simp] theorem State.readPair_hideSk (l : Loc) : (s.hideSk k).readPair l = s.readPair l := rfl
@[simp] theorem State.readOp_hideSk (wide : Bool) (l : Loc) : (s.hideSk k).readOp wide l = s.readOp wide l := rfl
@[simp] theorem State.pointerAt_hideSk (a : Word) : (s.hideSk k).pointerAt a = s.pointerAt a := rfl
@[simp] theorem State.zpPointer_hideSk (b : Byte) : (s.hideSk k).zpPointer b = s.zpPointer b := rfl
@[simp] theorem State.throughInd_hideSk (a : Word) : (s.hideSk k).throughInd a = s.throughInd a := rfl
@[simp] theorem State.bitAddress_hideSk (zp : Byte) : (s.hideSk k).bitAddress zp = s.bitAddress zp := rfl

@[simp] theorem State.zpIndexed_hideSk (i : Word) (b : Byte) : (s.hideSk k).zpIndexed i b = s.zpIndexed i b := rfl

/-- S is S_U in User mode (R24). -/
@[simp] theorem State.sys_hideSk : (s.hideSk k).sys = s.sys := by
  cases h : s.p.m <;> simp [State.sys, State.hideSk, h]

/-- `tsx` and `tsa` reach S_K in Kernel mode alone (R365). -/
@[simp] theorem State.transferSp_hideSk : (s.hideSk k).transferSp = s.transferSp := by
  cases h : s.p.m <;> simp [State.transferSp, State.hideSk, h]

@[simp] theorem State.reg_hideSk (r : Reg) : (s.hideSk k).reg r = s.reg r := by
  cases r <;> simp [State.reg]

@[simp] theorem State.xIndex_hideSk : (s.hideSk k).xIndex = s.xIndex := by
  rw [State.xIndex_eq, State.sys_hideSk]
  exact s.xIndex_eq.symm

@[simp] theorem State.bpBase_hideSk : (s.hideSk k).bpBase = s.bpBase := by
  rw [State.bpBase_eq, State.sys_hideSk]
  exact s.bpBase_eq.symm

end Reads

/-! ### Stack pointers: S_K is selected in Kernel mode alone -/

/-- An instruction in this state may use the pointer: S_K is used in Kernel mode alone (R24). -/
def State.inReach (s : State) (q : StackPtr) : Prop := q = .kernel → s.p.m = true

theorem State.inReach_congr {s t : State} (h : t.p = s.p) (q : StackPtr) : t.inReach q ↔ s.inReach q := by
  simp [State.inReach, h]

theorem State.inReach_modePtr (s : State) : s.inReach s.modePtr := by
  cases h : s.p.m <;> simp [State.inReach, State.modePtr, h]

@[simp] theorem State.inReach_stackPtr (s : State) : s.inReach s.stackPtr := by
  unfold State.stackPtr
  split
  next => exact nofun
  next => exact s.inReach_modePtr

@[simp] theorem State.inReach_vmPtr (s : State) : s.inReach s.vmPtr := by
  unfold State.vmPtr
  split
  next => exact s.inReach_modePtr
  next => exact nofun

@[simp] theorem State.inReach_writeByte (s : State) (q : StackPtr) (a : Word) (v : Byte) :
    (s.writeByte a v).inReach q ↔ s.inReach q := State.inReach_congr (s.writeByte_p a v) q

@[simp] theorem State.inReach_push8 (s : State) (q : StackPtr) (v : Byte) :
    (s.push8 q v).inReach q ↔ s.inReach q := State.inReach_congr (s.push8_p q v) q

@[simp] theorem State.inReach_pulled8 (s : State) (q : StackPtr) :
    (s.pulled8 q).inReach q ↔ s.inReach q := State.inReach_congr (s.pulled8_p q) q

section Pointers

variable {s : State} {q : StackPtr} (k : Word)

@[simp] theorem State.sp_hideSk (h : s.inReach q) : (s.hideSk k).sp q = s.sp q := by
  cases q with
  | kernel => simp [State.hideSk_kernel (h rfl)]
  | user | aux => rfl

@[simp] theorem State.setSp_hideSk (h : s.inReach q) (v : Word) :
    (s.hideSk k).setSp q v = (s.setSp q v).hideSk k := by
  cases q with
  | kernel => simp [State.hideSk_kernel, h rfl]
  | user | aux => rfl

@[simp] theorem State.writeByte_hideSk (s : State) (k a : Word) (v : Byte) :
    (s.hideSk k).writeByte a v = (s.writeByte a v).hideSk k := rfl

@[simp] theorem State.push8_hideSk (h : s.inReach q) (v : Byte) :
    (s.hideSk k).push8 q v = (s.push8 q v).hideSk k := by
  simp [State.push8, h]

@[simp] theorem State.push16_hideSk (h : s.inReach q) (v : Word) :
    (s.hideSk k).push16 q v = (s.push16 q v).hideSk k := by
  simp [State.push16, h]

@[simp] theorem State.pulled8_hideSk (h : s.inReach q) :
    (s.hideSk k).pulled8 q = (s.pulled8 q).hideSk k := by
  simp [State.pulled8, h]

@[simp] theorem State.pulled16_hideSk (h : s.inReach q) :
    (s.hideSk k).pulled16 q = (s.pulled16 q).hideSk k := by
  simp [State.pulled16, h]

@[simp] theorem State.pull8_hideSk (h : s.inReach q) : (s.hideSk k).pull8 q = s.pull8 q := by
  simp [State.pull8, h]

@[simp] theorem State.pull16_hideSk (h : s.inReach q) : (s.hideSk k).pull16 q = s.pull16 q := by
  simp [State.pull16, h]

end Pointers

@[simp] theorem State.spLoc_hideSk (s : State) (k : Word) (b : Byte) : (s.hideSk k).spLoc b = s.spLoc b := by
  simp [State.spLoc]

@[simp] theorem State.loc_hideSk (s : State) (k : Word) (m : Mode) : (s.hideSk k).loc m = s.loc m := by
  cases m with
  | zp b | zpY b | zpInd b | zpIndY b | abs w | absY w | ip b => rfl
  | zpX b | zpXInd b | absX w | sp b | spIndY b | bp b => simp [State.loc]

@[simp] theorem State.adjusted_hideSk (s : State) (k : Word) (imm : Byte) :
    (s.hideSk k).adjusted imm = s.adjusted imm := by
  simp [State.adjusted]

/-! ### Operations commute with another value of S_K -/

section Writes

variable (s : State) (k : Word)

@[simp] theorem State.setP_hideSk {p : Psw} (h : p.m = s.p.m) : (s.hideSk k).setP p = (s.setP p).hideSk k := by
  simp [State.setP, State.hideSk, h]

@[simp] theorem State.drawn_hideSk (n : Nat) : (s.hideSk k).drawn n = (s.drawn n).hideSk k := rfl
@[simp] theorem State.retire_hideSk (n : Nat) : (s.hideSk k).retire n = (s.retire n).hideSk k := rfl
@[simp] theorem State.jump_hideSk (a : Word) : (s.hideSk k).jump a = (s.jump a).hideSk k := rfl
@[simp] theorem State.setNZ_hideSk (v : Word) : (s.hideSk k).setNZ v = (s.setNZ v).hideSk k := rfl
@[simp] theorem State.freeNZ_hideSk : (s.hideSk k).freeNZ = s.freeNZ.hideSk k := rfl
@[simp] theorem State.freeV_hideSk : (s.hideSk k).freeV = s.freeV.hideSk k := rfl
@[simp] theorem State.setC_hideSk (c : Bool) : (s.hideSk k).setC c = (s.setC c).hideSk k := rfl
@[simp] theorem State.setCV_hideSk (c v : Bool) : (s.hideSk k).setCV c v = (s.setCV c v).hideSk k := rfl
@[simp] theorem State.testBits_hideSk (v : Word) : (s.hideSk k).testBits v = (s.testBits v).hideSk k := by
  simp [State.testBits]
@[simp] theorem State.copyTopBits_hideSk (v : Word) :
    (s.hideSk k).copyTopBits v = (s.copyTopBits v).hideSk k := rfl
@[simp] theorem State.nextWord_hideSk (itc : Bool) : (s.hideSk k).nextWord itc = (s.nextWord itc).hideSk k := rfl

@[simp] theorem State.writePair_hideSk (l : Loc) (v : Word) :
    (s.hideSk k).writePair l v = (s.writePair l v).hideSk k := rfl

@[simp] theorem State.writeOp_hideSk (wide : Bool) (l : Loc) (v : Word) :
    (s.hideSk k).writeOp wide l v = (s.writeOp wide l v).hideSk k := by
  cases wide <;> rfl

@[simp] theorem State.past_hideSk (m : Mode) : (s.hideSk k).past m = (s.past m).hideSk k := by
  cases m <;> rfl

@[simp] theorem State.mapStack_hideSk (f : RegStack → RegStack) :
    (s.hideSk k).mapStack f = (s.mapStack f).hideSk k := by
  simp only [State.mapStack, apply_ite (State.hideSk · k)]
  rfl

@[simp] theorem State.setSys_hideSk (v : Word) : (s.hideSk k).setSys v = (s.setSys v).hideSk k := by
  cases h : s.p.m <;> simp [State.setSys, State.hideSk, h]

@[simp] theorem State.setTransferSp_hideSk (v : Word) :
    (s.hideSk k).setTransferSp v = (s.setTransferSp v).hideSk k := by
  cases h : s.p.m <;> cases hi : s.pre.ind <;> simp [State.setTransferSp, State.hideSk, h, hi]

@[simp] theorem State.setReg_hideSk (r : Reg) (v : Word) : (s.hideSk k).setReg r v = (s.setReg r v).hideSk k := by
  cases r with
  | a | x | y => rfl
  | sp => exact s.setSys_hideSk k v

@[simp] theorem State.load_hideSk (r : Reg) (v : Word) : (s.hideSk k).load r v = (s.load r v).hideSk k := by
  simp only [State.load, State.wide_hideSk, State.setReg_hideSk]
  split <;> rfl

@[simp] theorem State.shiftAcc_hideSk (j : ShiftKind) : (s.hideSk k).shiftAcc j = (s.shiftAcc j).hideSk k := by
  simp [State.shiftAcc]

@[simp] theorem State.takeSum_hideSk (r : Sum) : (s.hideSk k).takeSum r = (s.takeSum r).hideSk k := by
  simp [State.takeSum]

@[simp] theorem State.takeDecimal_hideSk (r : DecSum) : (s.hideSk k).takeDecimal r = (s.takeDecimal r).hideSk k := by
  simp [State.takeDecimal]

@[simp] theorem State.takeInvalid_hideSk : (s.hideSk k).takeInvalid = s.takeInvalid.hideSk k := by
  simp [State.takeInvalid]

@[simp] theorem State.takeUnruled_hideSk : (s.hideSk k).takeUnruled = s.takeUnruled.hideSk k := by
  simp [State.takeUnruled]

@[simp] theorem State.decimalWith_hideSk (f : Byte → Byte → Bool → DecSum) (v : Word) :
    (s.hideSk k).decimalWith f v = (s.decimalWith f v).hideSk k := by
  simp only [State.decimalWith, State.accReg_hideSk, State.reg_hideSk]
  split <;> simp

@[simp] theorem State.addCarry_hideSk (v : Word) : (s.hideSk k).addCarry v = (s.addCarry v).hideSk k := by
  cases h : s.decimal <;> simp [State.addCarry, h]

@[simp] theorem State.subCarry_hideSk (v : Word) : (s.hideSk k).subCarry v = (s.subCarry v).hideSk k := by
  cases h : s.decimal <;> simp [State.subCarry, h]

@[simp] theorem State.addPlain_hideSk (r : Sum) : (s.hideSk k).addPlain r = (s.addPlain r).hideSk k := by
  cases h : s.decimal <;> simp [State.addPlain, h]

@[simp] theorem State.compare_hideSk (r : Reg) (v : Word) :
    (s.hideSk k).compare r v = (s.compare r v).hideSk k := by
  simp [State.compare, Psw.setNZ]

@[simp] theorem State.stepReg_hideSk (r : Reg) (v : Word) : (s.hideSk k).stepReg r v = (s.stepReg r v).hideSk k := by
  simp [State.stepReg]

@[simp] theorem State.logic_hideSk (op : LogicOp) (v : Word) : (s.hideSk k).logic op v = (s.logic op v).hideSk k := by
  simp [State.logic]

@[simp] theorem State.transfer_hideSk (dst src : Reg) :
    (s.hideSk k).transfer dst src = (s.transfer dst src).hideSk k := by
  simp [State.transfer]

@[simp] theorem State.pushReg_hideSk (r : Reg) : (s.hideSk k).pushReg r = (s.pushReg r).hideSk k := by
  cases h : s.wide <;> simp [State.pushReg, h]

@[simp] theorem State.pullReg_hideSk (r : Reg) : (s.hideSk k).pullReg r = (s.pullReg r).hideSk k := by
  cases h : s.wide <;> simp [State.pullReg, h]

@[simp] theorem State.enterWord_hideSk (itc : Bool) : (s.hideSk k).enterWord itc = (s.enterWord itc).hideSk k := by
  unfold State.enterWord
  rw [State.vmPtr_hideSk, State.hideSk_ip, State.push16_hideSk k s.inReach_vmPtr]
  rfl

end Writes

/-! ### Operations keep the mode and the lower elements -/

section Held

variable (s : State)

theorem State.setP_held {p : Psw} (h : p.m = s.p.m) : (s.setP p).held = s.held :=
  State.held_eq.2 ⟨h, rfl⟩

@[simp] theorem State.writeByte_held (a : Word) (v : Byte) : (s.writeByte a v).held = s.held := rfl
@[simp] theorem State.writePair_held (l : Loc) (v : Word) : (s.writePair l v).held = s.held := rfl
@[simp] theorem State.drawn_held (n : Nat) : (s.drawn n).held = s.held := rfl
@[simp] theorem State.retire_held (n : Nat) : (s.retire n).held = s.held := rfl
@[simp] theorem State.jump_held (a : Word) : (s.jump a).held = s.held := rfl
@[simp] theorem State.setNZ_held (v : Word) : (s.setNZ v).held = s.held := rfl
@[simp] theorem State.freeNZ_held : s.freeNZ.held = s.held := rfl
@[simp] theorem State.freeV_held : s.freeV.held = s.held := rfl
@[simp] theorem State.setC_held (c : Bool) : (s.setC c).held = s.held := rfl
@[simp] theorem State.setCV_held (c v : Bool) : (s.setCV c v).held = s.held := rfl
@[simp] theorem State.testBits_held (v : Word) : (s.testBits v).held = s.held := rfl
@[simp] theorem State.copyTopBits_held (v : Word) : (s.copyTopBits v).held = s.held := rfl
@[simp] theorem State.compare_held (r : Reg) (v : Word) : (s.compare r v).held = s.held := rfl
@[simp] theorem State.nextWord_held (itc : Bool) : (s.nextWord itc).held = s.held := rfl

@[simp] theorem State.writeOp_held (wide : Bool) (l : Loc) (v : Word) : (s.writeOp wide l v).held = s.held := by
  simp [State.held, State.lower]

@[simp] theorem State.setTransferSp_held (v : Word) : (s.setTransferSp v).held = s.held := by
  simp [State.held, State.lower]

@[simp] theorem State.past_held (m : Mode) : (s.past m).held = s.held := by
  simp [State.held, State.lower]

@[simp] theorem State.setReg_held (r : Reg) (v : Word) : (s.setReg r v).held = s.held :=
  State.held_eq.2 ⟨by simp, State.lower_eq.2 (s.setReg_below r v)⟩

@[simp] theorem State.setSp_held (q : StackPtr) (v : Word) : (s.setSp q v).held = s.held := by
  simp [State.held, State.lower, s.setSp_below q v]

@[simp] theorem State.push8_held (q : StackPtr) (v : Byte) : (s.push8 q v).held = s.held := by
  simp [State.push8]

@[simp] theorem State.push16_held (q : StackPtr) (v : Word) : (s.push16 q v).held = s.held := by
  simp [State.push16]

@[simp] theorem State.pulled8_held (q : StackPtr) : (s.pulled8 q).held = s.held := by
  simp [State.pulled8]

@[simp] theorem State.pulled16_held (q : StackPtr) : (s.pulled16 q).held = s.held := by
  simp [State.pulled16]

@[simp] theorem State.load_held (r : Reg) (v : Word) : (s.load r v).held = s.held := by
  simp only [State.load]
  split <;> simp

@[simp] theorem State.shiftAcc_held (j : ShiftKind) : (s.shiftAcc j).held = s.held := by
  simp [State.shiftAcc]

@[simp] theorem State.takeSum_held (r : Sum) : (s.takeSum r).held = s.held := by
  simp [State.takeSum]

@[simp] theorem State.takeUnruled_held : s.takeUnruled.held = s.held := by
  simp [State.takeUnruled]

@[simp] theorem State.decimalWith_held (f : Byte → Byte → Bool → DecSum) (v : Word) :
    (s.decimalWith f v).held = s.held := by
  simp only [State.decimalWith]
  split
  next => simp [State.takeDecimal]
  next => simp [State.takeInvalid, State.setP_held]

@[simp] theorem State.addCarry_held (v : Word) : (s.addCarry v).held = s.held := by
  unfold State.addCarry
  split <;> simp

@[simp] theorem State.subCarry_held (v : Word) : (s.subCarry v).held = s.held := by
  unfold State.subCarry
  split <;> simp

@[simp] theorem State.addPlain_held (r : Sum) : (s.addPlain r).held = s.held := by
  unfold State.addPlain
  split <;> simp

@[simp] theorem State.stepReg_held (r : Reg) (v : Word) : (s.stepReg r v).held = s.held := by
  simp [State.stepReg]

@[simp] theorem State.logic_held (op : LogicOp) (v : Word) : (s.logic op v).held = s.held := by
  simp [State.logic]

@[simp] theorem State.transfer_held (dst src : Reg) : (s.transfer dst src).held = s.held := by
  simp [State.transfer]

@[simp] theorem State.pushReg_held (r : Reg) : (s.pushReg r).held = s.held := by
  unfold State.pushReg
  split <;> simp

@[simp] theorem State.pullReg_held (r : Reg) : (s.pullReg r).held = s.held := by
  unfold State.pullReg
  split <;> simp

@[simp] theorem State.enterWord_held (itc : Bool) : (s.enterWord itc).held = s.held := by
  rw [State.enterWord, State.nextWord_held]
  exact s.push16_held ..

end Held

/-! ### Shapes of use -/

/-- A meaning that is ordinary: in every state where it completes it keeps the mode and the lower elements, and it
completes in the same way with another value of S_K in User mode. -/
def Ordinary (f : State → Answer) : Prop :=
  ∀ s t, f s = .next t → t.held = s.held ∧ ∀ k, f (s.hideSk k) = .next (t.hideSk k)

section Shapes

variable {u : State → State}

theorem ordinary_next (hh : ∀ s, (u s).held = s.held) (hk : ∀ s k, u (s.hideSk k) = (u s).hideSk k) :
    Ordinary fun s => .next (u s) := by
  rintro s t h
  obtain rfl := Host.Outcome.next.inj h
  exact ⟨hh s, fun k => congrArg _ (hk s k)⟩

theorem ordinary_refused {r : Refusal} : Ordinary fun _ => .refused r :=
  fun _ _ h => nomatch h

theorem ordinary_done (hh : ∀ s, (u s).held = s.held) (hk : ∀ s k, u (s.hideSk k) = (u s).hideSk k) :
    Ordinary fun s => (u s).done :=
  ordinary_next (by simp [hh]) (by simp [hk])

theorem ordinary_unless_osx {r : Refusal} (hh : ∀ s, (u s).held = s.held)
    (hk : ∀ s k, u (s.hideSk k) = (u s).hideSk k) :
    Ordinary fun s => if s.pre.osx then .refused r else (u s).done := by
  intro s t (h : (if s.pre.osx then _ else _) = _)
  split at h
  next => cases h
  next hosx => simpa [hosx] using ordinary_done hh hk s t h

theorem ordinary_onlyA (hh : ∀ s, (u s).held = s.held) (hk : ∀ s k, u (s.hideSk k) = (u s).hideSk k) :
    Ordinary fun s => s.onlyA (u s) := by
  intro s t h
  obtain ⟨hpre, rfl⟩ := State.onlyA_next.1 h
  exact ⟨by simp [hh], fun k => State.onlyA_next.2 ⟨hpre, by simp [hk]⟩⟩

theorem ordinary_withMode {m : Mode} {body : State → State → Loc → State}
    (hh : ∀ s t l, (body s t l).held = t.held)
    (hk : ∀ s t l k, body (s.hideSk k) (t.hideSk k) l = (body s t l).hideSk k) :
    Ordinary fun s => s.withMode m (body s) := by
  intro s t h
  obtain ⟨hm, rfl⟩ := State.withMode_next.1 h
  exact ⟨by simp [hh], fun k => State.withMode_next.2 ⟨hm, by simp [hk]⟩⟩

theorem ordinary_reading {m : Mode} {use : State → Word → State} (hh : ∀ t v, (use t v).held = t.held)
    (hk : ∀ t v k, use (t.hideSk k) v = (use t v).hideSk k) : Ordinary fun s => s.reading m use :=
  ordinary_withMode (by simp [hh]) (by simp [hk])

theorem ordinary_immediate {imm : Imm} {use : State → Word → State} (hh : ∀ t v, (use t v).held = t.held)
    (hk : ∀ t v k, use (t.hideSk k) v = (use t v).hideSk k) : Ordinary fun s => s.immediate imm use :=
  ordinary_next (by simp [hh]) (by simp [hk])

theorem ordinary_writing {m : Mode} {v : State → Word} (hk : ∀ s k, v (s.hideSk k) = v s) :
    Ordinary fun s => s.writing m (v s) :=
  ordinary_withMode (by simp) (by simp [hk])

theorem ordinary_changing {m : Mode} {f : State → Word → Word} {use : State → State → Word → State}
    (hf : ∀ s k, f (s.hideSk k) = f s) (hh : ∀ s t v, (use s t v).held = t.held)
    (hk : ∀ s t v k, use (s.hideSk k) (t.hideSk k) v = (use s t v).hideSk k) :
    Ordinary fun s => s.changing m (f s) (use s) :=
  ordinary_withMode (by simp [hh]) (by simp [hf, hk])

theorem ordinary_shiftMem {j : ShiftKind} {m : Mode} : Ordinary fun s => s.shiftMem j m :=
  ordinary_changing (by simp) (by simp) (by simp)

theorem ordinary_stepMem {m : Mode} {v : Word} : Ordinary fun s => s.stepMem m v :=
  ordinary_changing (fun _ _ => rfl) (by simp) (by simp)

end Shapes

/-- All instructions but `dup`, `swp` and `rot`, `rti`, and those that can trap are ordinary: the instructions by the
shape in which they use their operand. -/
theorem exec_ordinary (i : Instr) (hi : i ∉ [Instr.dup, .swp, .rot]) (hr : i ≠ .rti) (hb : ¬ ∃ b, i = .brk b)
    (hu : i ∉ unassigneds) : Ordinary (exec i) := by
  unfold exec
  cases i with
  -- an operand read from memory
  | ora m | and m | eor m | bit m | lda m | ldx m | ldy m | lds m | adc m | sbc m | cmp m | cpx m | cpy m | cps m
  | add m | sub m => exact ordinary_reading (by simp) (by simp)
  -- an immediate operand
  | oraImm imm | andImm imm | eorImm imm | bitImm imm | ldaImm imm | ldxImm imm | ldyImm imm | ldsImm imm
  | adcImm imm | sbcImm imm | cmpImm imm | cpxImm imm | cpyImm imm | cpsImm imm =>
    exact ordinary_immediate (by simp) (by simp)
  -- an operand written, or changed in place
  | sta m | stx m | sty m | stz m | sts m => exact ordinary_writing (by simp)
  | tsb m | trb m => exact ordinary_changing (by simp) (by simp) (by simp)
  | asl m | rol m | lsr m | ror m => exact ordinary_shiftMem
  | inc m | dec m => exact ordinary_stepMem
  | rmb0 zp | rmb1 zp | rmb2 zp | rmb3 zp | rmb4 zp | rmb5 zp | rmb6 zp | rmb7 zp
  | smb0 zp | smb1 zp | smb2 zp | smb3 zp | smb4 zp | smb5 zp | smb6 zp | smb7 zp =>
    exact ordinary_next (by simp) (by simp)
  | psh m | pul m | xma m => exact ordinary_withMode (by simp) (by simp)
  -- one byte: accumulator, registers, flags, pushes and pulls, run state
  | aslA | rolA | lsrA | rorA | asr | asrW | aslAV | rolAV
  | incA | decA | inx | dex | iny | dey | ins | des | incAC | decAC
  | tax | txa | tay | tya | tas | tsa
  | pha | phx | phy | phs | pla | plx | ply | pls | php | phi | phw | nop => exact ordinary_done (by simp) (by simp)
  | clc | sec | cli | sei | clv | cld | sed | plp =>
    exact ordinary_done (by simp [State.setP_held, Psw.loadFlags]) (by simp [Psw.loadFlags])
  | pli | plw =>
    exact ordinary_done (fun s => s.pulled16_held _) fun s k => by
      simp only [State.vmPtr_hideSk, State.pulled16_hideSk, State.pull16_hideSk, State.inReach_vmPtr]
      rfl
  | ini | inw | wai | stp => exact ordinary_done (fun _ => rfl) (fun _ _ => rfl)
  -- the forms that some flag stops, and the prefixes
  | txs | tsx => exact ordinary_unless_osx (by simp) (by simp)
  | tai | tia | xai | bsw | rev => exact ordinary_onlyA (fun _ => rfl) (fun _ _ => rfl)
  | ind | siz | isz | oax | oay | osx => exact ordinary_next (fun _ => rfl) (fun _ _ => rfl)
  -- 16-bit pushes and the stack frame
  | pshImm imm | phr imm | adj imm => exact ordinary_next (by simp) (by simp)
  -- control
  | bpl rel | bmi rel | bvc rel | bvs rel | bra rel | bcc rel | bcs rel | bne rel | beq rel
  | ble rel | bgt rel | blt rel | bge rel | bhs rel | blo rel | bhi rel | bls rel
  | jpl rel | jmi rel | jvc rel | jvs rel | jrl rel | jcc rel | jcs rel | jne rel | jeq rel
  | jle rel | jgt rel | jlt rel | jge rel | jhs rel | jlo rel | jhi rel | jls rel
  | bbr0 zp rel | bbr1 zp rel | bbr2 zp rel | bbr3 zp rel | bbr4 zp rel | bbr5 zp rel | bbr6 zp rel | bbr7 zp rel
  | bbs0 zp rel | bbs1 zp rel | bbs2 zp rel | bbs3 zp rel | bbs4 zp rel | bbs5 zp rel | bbs6 zp rel | bbs7 zp rel
  | jmpAbs abs | jmpInd abs | nxt | nxtItc => exact ordinary_next (fun _ => rfl) (fun _ _ => rfl)
  | jmpIndX abs | jsr abs | rts | ent | entItc => exact ordinary_next (by simp) (by simp)
  -- the instructions without a described effect
  | cop imm | mov imm => exact ordinary_refused
  -- the instructions that are not ordinary
  | dup | swp | rot => exact absurd hi (by decide)
  | rti => exact absurd rfl hr
  | brk imm => exact absurd ⟨imm, rfl⟩ hb
  | unassigned82 | unassigned6F | unassigned8F | unassignedAF => exact absurd hu (by decide)

/-- An instruction is ordinary, or it is one of the few others. -/
theorem exec_cases (i : Instr) :
    Ordinary (exec i) ∨ i ∈ [Instr.dup, .swp, .rot] ∨ i = .rti ∨ (∃ b, i = .brk b) ∨ i ∈ unassigneds := by
  by_contra h
  simp only [not_or] at h
  obtain ⟨ho, hi, hr, hb, hu⟩ := h
  exact ho (exec_ordinary i hi hr hb hu)

/-! ### The instructions that are not ordinary -/

/-- `dup`, `swp` and `rot` change one register stack as a whole (R222 to R224). -/
theorem exec_of_stackMove {i : Instr} (hi : i ∈ [Instr.dup, .swp, .rot]) :
    ∃ f, ∀ s, exec i s = (s.mapStack f).done := by
  simp only [List.mem_cons, List.not_mem_nil, or_false] at hi
  obtain rfl | rfl | rfl := hi <;> exact ⟨_, fun _ => rfl⟩

theorem exec_of_unassigned {i : Instr} (hi : i ∈ unassigneds) (s : State) : exec i s = s.unassigned := by
  simp only [unassigneds, List.mem_cons, List.not_mem_nil, or_false] at hi
  obtain rfl | rfl | rfl | rfl := hi <;> rfl

theorem exec_rti_next {s t : State} : exec .rti s = .next t ↔ t = s.returnFrom s.stackPtr :=
  ⟨fun h => (Host.Outcome.next.inj h).symm, fun h => h ▸ rfl⟩

theorem exec_brk_next {b : Byte} {s t : State} :
    exec (.brk b) s = .next t ↔ t = s.enter (s.pc + brkOffset s.cfg.brkPushOffset) true s.cfg.vecBrk :=
  ⟨fun h => (Host.Outcome.next.inj h).symm, fun h => h ▸ rfl⟩

@[simp] theorem State.mapStack_p (s : State) (f : RegStack → RegStack) : (s.mapStack f).p = s.p := by
  unfold State.mapStack
  split
  next => rfl
  next => split <;> rfl

/-- Taking a trap pushes three bytes on S_K and moves no lower element. -/
theorem State.enter_lower (s : State) (ret : Word) (bit4 : Bool) (vector : Word) :
    (s.enter ret bit4 vector).lower = s.lower := by
  change ((s.push16 .kernel ret).push8 .kernel (s.p.toByte bit4)).lower = s.lower
  exact (State.held_eq.1 (by simp)).2

theorem State.returnFrom_lower (s : State) (q : StackPtr) : (s.returnFrom q).lower = s.lower := by
  change ((s.pulled8 q).pulled16 q).lower = s.lower
  exact (State.held_eq.1 (by simp)).2

theorem State.returnFrom_p (s : State) (q : StackPtr) : (s.returnFrom q).p = s.p.restore (s.pull8 q) := rfl

/-- In User mode `rti` does not load M (R551), and pulls from S_U or the auxiliary stack. -/
theorem State.returnFrom_hideSk {s : State} (h : s.p.m = false) (k : Word) :
    (s.hideSk k).returnFrom s.stackPtr = (s.returnFrom s.stackPtr).hideSk k := by
  simp [State.returnFrom, Psw.restore, h]

end Sys2Proof.Machine
end

section
/-!
SUPPORT. The mode, the lower elements of the register stacks, and S_K in User mode, over an instruction, over the
boundary after it and over a step.
-/

namespace Sys2Proof.Machine

/-! ### Instructions -/

/-- What an instruction leaves of the mode (R37, R545, R551). -/
theorem exec_mode {i : Instr} {s t : State} (h : exec i s = .next t) :
    t.p.m = s.p.m ∨ (i = .rti ∧ s.p.m = true ∧ t.p.m = (s.pull8 s.stackPtr).getLsbD 5) ∨
      (t.p.m = true ∧ ((∃ b, i = .brk b) ∨ (i ∈ unassigneds ∧ s.cfg.unusedOpcode = .invTrap))) := by
  obtain ho | hi | rfl | ⟨b, rfl⟩ | hu := exec_cases i
  · exact .inl (State.held_eq.1 (ho s t h).1).1
  · obtain ⟨f, hf⟩ := exec_of_stackMove hi
    obtain rfl := State.done_next.1 ((hf s).symm.trans h)
    exact .inl (by simp)
  · obtain rfl := exec_rti_next.1 h
    rw [State.returnFrom_p]
    cases hm : s.p.m <;> simp [Psw.restore, hm]
  · obtain rfl := exec_brk_next.1 h
    exact .inr (.inr ⟨rfl, .inl ⟨b, rfl⟩⟩)
  · obtain ⟨-, rfl⟩ | ⟨hcfg, rfl⟩ := State.unassigned_next.1 ((exec_of_unassigned hu s).symm.trans h)
    · exact .inl rfl
    · exact .inr (.inr ⟨rfl, .inr ⟨hu, hcfg⟩⟩)

/-- What an instruction leaves of the lower elements (R21). -/
theorem exec_lower {i : Instr} {s t : State} (hi : i ∉ [Instr.dup, .swp, .rot]) (h : exec i s = .next t) :
    t.lower = s.lower := by
  obtain ho | hi' | rfl | ⟨b, rfl⟩ | hu := exec_cases i
  · exact (State.held_eq.1 (ho s t h).1).2
  · exact absurd hi' hi
  · obtain rfl := exec_rti_next.1 h
    exact s.returnFrom_lower _
  · obtain rfl := exec_brk_next.1 h
    exact s.enter_lower ..
  · obtain ⟨-, rfl⟩ | ⟨-, rfl⟩ := State.unassigned_next.1 ((exec_of_unassigned hu s).symm.trans h)
    · rfl
    · exact s.enter_lower ..

/-- Settles O13: an instruction but `dup`, `swp` and `rot` is ordinary, or is `rti` or one that can trap, which write
stack pointers alone. -/
theorem belowTopMoves : Obligations.BelowTopMoves := by
  unfold Obligations.BelowTopMoves
  intro i s t hi h
  exact State.lower_eq.1 (exec_lower hi h)

/-- An instruction from User mode to User mode does the same with another value of S_K. -/
theorem exec_hideSk {i : Instr} {s t : State} (h : exec i s = .next t) (hs : s.p.m = false) (ht : t.p.m = false)
    (k : Word) : exec i (s.hideSk k) = .next (t.hideSk k) := by
  obtain ho | hi | rfl | ⟨b, rfl⟩ | hu := exec_cases i
  · exact (ho s t h).2 k
  · obtain ⟨f, hf⟩ := exec_of_stackMove hi
    obtain rfl := State.done_next.1 ((hf s).symm.trans h)
    rw [hf, State.done_next]
    simp
  · obtain rfl := exec_rti_next.1 h
    exact exec_rti_next.2 (State.returnFrom_hideSk hs k).symm
  · obtain rfl := exec_brk_next.1 h
    cases ht
  · rw [exec_of_unassigned hu] at h ⊢
    obtain ⟨hcfg, rfl⟩ | ⟨-, rfl⟩ := State.unassigned_next.1 h
    · exact State.unassigned_next.2 (.inl ⟨hcfg, rfl⟩)
    · cases ht

/-! ### The boundary after an instruction -/

@[simp] theorem State.applySo_m (s : State) : s.applySo.p.m = s.p.m := by
  unfold State.applySo
  split <;> rfl

@[simp] theorem State.applySo_i (s : State) : s.applySo.p.i = s.p.i := by
  unfold State.applySo
  split <;> rfl

@[simp] theorem State.applySo_hideSk (s : State) (k : Word) : (s.hideSk k).applySo = s.applySo.hideSk k := by
  simp only [State.applySo, apply_ite (State.hideSk · k)]
  rfl

@[simp] theorem State.takeInterrupt_m (s : State) (r : IntRequest) : (s.takeInterrupt r).p.m = true := rfl

@[simp] theorem State.interrupt?_applySo (s : State) (inp : Inputs) :
    s.applySo.interrupt? inp = s.interrupt? inp := by
  simp [State.interrupt?]

@[simp] theorem State.interrupt?_hideSk (s : State) (k : Word) (inp : Inputs) :
    (s.hideSk k).interrupt? inp = s.interrupt? inp := rfl

/-- A request that is taken is there, and I does not mask it (R532). -/
theorem State.interrupt?_eq_some {s : State} {inp : Inputs} {r : IntRequest} (h : s.interrupt? inp = some r) :
    inp.int = some r ∧ (r.kind = .maskable → s.p.i = false) := by
  unfold State.interrupt? at h
  split at h
  next => cases h
  next hint =>
    split at h
    next hkind =>
      obtain rfl := Option.some.inj h
      exact ⟨hint, fun hk => absurd (hkind.symm.trans hk) (by decide)⟩
    next =>
      split at h
      next => cases h
      next hi =>
        obtain rfl := Option.some.inj h
        exact ⟨hint, fun _ => Bool.eq_false_iff.2 hi⟩

/-- Waiting, the mode stays, or becomes Kernel mode by an interrupt. -/
theorem State.wait_mode (s : State) (inp : Inputs) :
    (s.wait inp).p.m = s.p.m ∨ ((s.wait inp).p.m = true ∧ ∃ r, s.interrupt? inp = some r) := by
  unfold State.wait
  split
  next r hr => exact .inr ⟨rfl, r, hr⟩
  next => split <;> simp

/-- Over the boundary the mode stays, or becomes Kernel mode by an interrupt. -/
theorem State.boundary_mode (s : State) (op : Byte) (inp : Inputs) :
    (s.boundary op inp).p.m = s.p.m ∨ ((s.boundary op inp).p.m = true ∧ ∃ r, s.interrupt? inp = some r) := by
  simp only [State.boundary]
  split
  next => simp
  next => simpa using s.applySo.wait_mode inp
  next =>
    split
    next =>
      split
      next r hr => exact .inr ⟨rfl, r, by simpa using hr⟩
      next => simp
    next => simp

/-- A wait that ends in User mode is the same with another value of S_K. -/
theorem State.wait_hideSk {s : State} {inp : Inputs} (h : (s.wait inp).p.m = false) (k : Word) :
    (s.hideSk k).wait inp = (s.wait inp).hideSk k := by
  unfold State.wait at h ⊢
  rw [State.interrupt?_hideSk]
  split at h
  next => cases h
  next =>
    simp only [State.applySo_hideSk, State.hideSk_p]
    split <;> rfl

/-- A boundary that ends in User mode is the same with another value of S_K. -/
theorem State.boundary_hideSk {s : State} {op : Byte} {inp : Inputs} (h : (s.boundary op inp).p.m = false)
    (k : Word) : (s.hideSk k).boundary op inp = (s.boundary op inp).hideSk k := by
  simp only [State.boundary, State.applySo_hideSk, State.hideSk_run, State.hideSk_cfg,
    State.interrupt?_hideSk] at h ⊢
  split at h
  next => rfl
  next => exact State.wait_hideSk h k
  next =>
    split at h
    next hpoint =>
      split at h
      next => cases h
      next => simp [hpoint]
    next hpoint => simp [hpoint]

/-! ### The step -/

theorem step_of_stopped {s : State} (hrun : s.run = .stopped) (hrst : s.sample.rst = false) :
    step s = .next s.sampled := by
  simp [step, hrun, hrst]

theorem step_of_waiting {s : State} (hrun : s.run = .waiting) (hrst : s.sample.rst = false) :
    step s = .next (s.sampled.wait s.sample) := by
  simp [step, hrun, hrst]

/-- A step that leaves Kernel mode is an `rti` that pulls a byte with bit 5 clear (R37). -/
theorem step_leaves_kernel {s t : State} (h : step s = .next t) (hs : s.p.m = true) (ht : t.p.m = false) :
    s.run = .running ∧ s.sample.rst = false ∧ s.fetch = .rti ∧ (s.pull8 s.stackPtr).getLsbD 5 = false := by
  obtain ⟨-, rfl⟩ | ⟨hrst, ⟨-, rfl⟩ | ⟨-, rfl⟩ | ⟨hrun, u, hu, rfl⟩⟩ := step_next h
  · cases ht
  · simp [hs] at ht
  · have := s.sampled.wait_mode s.sample
    simp [hs, ht] at this
  · have hum : u.p.m = false := by simpa [ht] using u.boundary_mode s.opcode s.sample
    obtain hsame | ⟨hrti, -, hbit⟩ | ⟨htrue, -⟩ := exec_mode hu
    · simp [hum, hs] at hsame
    · exact ⟨hrun, hrst, hrti, hbit.symm.trans hum⟩
    · simp [hum] at htrue

/-- A step that leaves User mode is a reset, takes an interrupt that I does not mask, or traps (R532, R553). -/
theorem step_leaves_user {s t : State} (h : step s = .next t) (hs : s.p.m = false) (ht : t.p.m = true) :
    s.sample.rst = true ∨
      (∃ r, s.sample.int = some r ∧
        (r.kind = .maskable →
          (s.run = .waiting ∧ s.p.i = false) ∨
            (s.run = .running ∧ ∃ u, exec s.fetch s.sampled = .next u ∧ u.p.i = false))) ∨
      (s.run = .running ∧
        ((∃ b, s.fetch = .brk b) ∨ (s.fetch ∈ unassigneds ∧ s.cfg.unusedOpcode = .invTrap))) := by
  obtain ⟨hrst, -⟩ | ⟨-, ⟨-, rfl⟩ | ⟨hrun, rfl⟩ | ⟨hrun, u, hu, rfl⟩⟩ := step_next h
  · exact .inl hrst
  · simp [hs] at ht
  · obtain hsame | ⟨-, r, hr⟩ := s.sampled.wait_mode s.sample
    · simp [hs, ht] at hsame
    · obtain ⟨hint, hmask⟩ := State.interrupt?_eq_some hr
      exact .inr (.inl ⟨r, hint, fun hk => .inl ⟨hrun, hmask hk⟩⟩)
  · obtain hsame | ⟨-, r, hr⟩ := u.boundary_mode s.opcode s.sample
    · obtain hsame' | ⟨-, hkernel, -⟩ | ⟨-, htrap⟩ := exec_mode hu
      · simp [hs, hsame', ht] at hsame
      · simp [hs] at hkernel
      · exact .inr (.inr ⟨hrun, htrap⟩)
    · obtain ⟨hint, hmask⟩ := State.interrupt?_eq_some hr
      exact .inr (.inl ⟨r, hint, fun hk => .inr ⟨hrun, u, hu, hmask hk⟩⟩)

/-- Settles O10: what a step does to the mode, from either mode. -/
theorem modeChanges : Obligations.ModeChanges := by
  unfold Obligations.ModeChanges
  exact fun s t h => ⟨step_leaves_kernel h, step_leaves_user h⟩

/-- A step from User mode to User mode does the same with another value of S_K. -/
theorem step_hideSk {s t : State} (h : step s = .next t) (hs : s.p.m = false) (ht : t.p.m = false) (k : Word) :
    step (s.hideSk k) = .next (t.hideSk k) := by
  obtain ⟨-, rfl⟩ | ⟨hrst, ⟨hrun, rfl⟩ | ⟨hrun, rfl⟩ | ⟨hrun, u, hu, rfl⟩⟩ := step_next h
  · cases ht
  · exact step_of_stopped (s := s.hideSk k) hrun hrst
  · exact (step_of_waiting (s := s.hideSk k) hrun hrst).trans (congrArg _ (State.wait_hideSk ht k))
  · have hum : u.p.m = false := by
      obtain hsame | ⟨htrue, -⟩ := u.boundary_mode s.opcode s.sample
      · exact hsame.symm.trans ht
      · simp [ht] at htrue
    have hexec : exec (s.hideSk k).fetch (s.hideSk k).sampled = .next (u.hideSk k) := exec_hideSk hu hs hum k
    rw [step_of_running (s := s.hideSk k) hrun hrst, hexec]
    exact congrArg _ (State.boundary_hideSk ht k)

/-- Settles O11: over a step from User mode to User mode, S_K is hidden before and after. -/
theorem userModeCannotTouchKernelStack : Obligations.UserModeCannotTouchKernelStack := by
  unfold Obligations.UserModeCannotTouchKernelStack
  intro s t k hs h ht
  rw [← State.hideSk_user hs, ← State.hideSk_user ht]
  exact step_hideSk h hs ht k

end Sys2Proof.Machine
end

section
/-!
SUPPORT. What each shared operation changes, said once for each as a list of pieces (`OnlyChanges`), so that what a
whole instruction changes follows by putting the lists together; and which piece a register and a stack pointer is.
-/

namespace Sys2Proof.Machine

variable {s t u : State} {fs gs : List Field} {f : Field}

/-! ### Frames -/

theorem Field.same_trans (hst : f.same s t) (htu : f.same t u) : f.same s u := by
  cases f <;> exact htu.trans hst

theorem OnlyChanges.mono (h : OnlyChanges fs s t) (hsub : fs ⊆ gs) : OnlyChanges gs s t :=
  fun f hf => h f fun hmem => hf (hsub hmem)

theorem OnlyChanges.trans (hst : OnlyChanges fs s t) (htu : OnlyChanges gs t u) : OnlyChanges (fs ++ gs) s u :=
  fun f hf =>
    have ⟨hfs, hgs⟩ := not_or.1 (mt List.mem_append.2 hf)
    Field.same_trans (hst f hfs) (htu f hgs)

/-- Two operations with one frame have that frame together. -/
theorem OnlyChanges.both (hst : OnlyChanges fs s t) (htu : OnlyChanges fs t u) : OnlyChanges fs s u :=
  (hst.trans htu).mono (by simp)

theorem sameMemory_of_mem_eq (h : t.mem = s.mem) : SameMemory s t := fun a => by
  simp [State.readByte, h]

/-! ### The pieces that stack pointers and registers are -/

theorem StackPtr.field_same {k : StackPtr} : k.field.same s t ↔ t.sp k = s.sp k := by
  cases k <;> rfl

theorem Reg.field_sp (s : State) : Reg.sp.field s = s.modePtr.field := by
  rw [State.modePtr, apply_ite StackPtr.field]
  rfl

/-- Which piece a register is depends on the mode alone (R24). -/
theorem Reg.field_congr (h : t.p.m = s.p.m) (r : Reg) : r.field t = r.field s := by
  cases r <;> simp [Reg.field, h]

theorem State.setSys_eq_setSp (s : State) (v : Word) : s.setSys v = s.setSp s.modePtr v := by
  unfold State.setSys State.modePtr
  split <;> rfl

/-! ### What each operation changes -/

theorem State.onlyChanges_writeByte (s : State) (a : Word) (v : Byte) : OnlyChanges [] s (s.writeByte a v) := by
  intro f _
  cases f <;> rfl

theorem State.onlyChanges_retire (s : State) (n : Nat) : OnlyChanges [.pc, .pre] s (s.retire n) := by
  intro f hf
  cases f with
  | pc | pre => simp at hf
  | _ => rfl

/-- Another P with the mode kept. -/
theorem State.onlyChanges_setP {p : Psw} (hm : p.m = s.p.m) :
    OnlyChanges [.n, .v, .d, .i, .z, .c] s (s.setP p) := by
  intro f hf
  cases f with
  | n | v | d | i | z | c => simp at hf
  | m => exact hm
  | _ => rfl

theorem State.onlyChanges_setNZ (s : State) (v : Word) : OnlyChanges [.n, .z] s (s.setNZ v) := by
  intro f hf
  cases f with
  | n | z => simp at hf
  | _ => rfl

theorem State.onlyChanges_freeNZ (s : State) : OnlyChanges [.n, .z, .free] s s.freeNZ := by
  intro f hf
  cases f with
  | n | z | free => simp at hf
  | _ => rfl

theorem State.onlyChanges_setSp (s : State) (k : StackPtr) (v : Word) : OnlyChanges [k.field] s (s.setSp k v) := by
  intro f hf
  cases k with
  | kernel =>
    cases f with
    | sk => exact absurd (.head _) hf
    | _ => rfl
  | user =>
    cases f with
    | su => exact absurd (.head _) hf
    | _ => rfl
  | aux =>
    cases f with
    | xTos => exact absurd (.head _) hf
    | _ => rfl

/-- X_TOS is the auxiliary stack pointer, and S the pointer that the mode selects; A and Y are no stack pointers. -/
theorem State.onlyChanges_setReg (s : State) (r : Reg) (v : Word) : OnlyChanges [r.field s] s (s.setReg r v) := by
  cases r with
  | x => exact s.onlyChanges_setSp .aux v
  | sp =>
    rw [Reg.field_sp, State.setReg, State.setSys_eq_setSp]
    exact s.onlyChanges_setSp _ v
  | a =>
    intro f hf
    cases f with
    | aTos => exact absurd (.head _) hf
    | _ => rfl
  | y =>
    intro f hf
    cases f with
    | yTos => exact absurd (.head _) hf
    | _ => rfl

theorem State.onlyChanges_load (s : State) (r : Reg) (v : Word) :
    OnlyChanges [r.field s, .n, .z, .free] s (s.load r v) := by
  have hreg := s.onlyChanges_setReg r (r.stored s.wide v)
  unfold State.load
  split
  next => exact hreg.trans (State.onlyChanges_freeNZ _)
  next => exact (hreg.trans (State.onlyChanges_setNZ _ v)).mono (by simp)

theorem State.onlyChanges_push8 (s : State) (k : StackPtr) (b : Byte) : OnlyChanges [k.field] s (s.push8 k b) :=
  (s.onlyChanges_writeByte _ b).trans (State.onlyChanges_setSp _ k _)

theorem State.onlyChanges_push16 (s : State) (k : StackPtr) (v : Word) : OnlyChanges [k.field] s (s.push16 k v) :=
  (s.onlyChanges_push8 k _).both (State.onlyChanges_push8 _ k _)

theorem State.onlyChanges_pulled8 (s : State) (k : StackPtr) : OnlyChanges [k.field] s (s.pulled8 k) :=
  s.onlyChanges_setSp k _

theorem State.onlyChanges_pulled16 (s : State) (k : StackPtr) : OnlyChanges [k.field] s (s.pulled16 k) :=
  (s.onlyChanges_pulled8 k).both (State.onlyChanges_pulled8 _ k)

/-! ### Registers and stack pointers that an operation leaves -/

@[simp] theorem State.sp_retire (s : State) (n : Nat) (k : StackPtr) : (s.retire n).sp k = s.sp k := by
  cases k <;> rfl

@[simp] theorem State.sp_setP (s : State) (p : Psw) (k : StackPtr) : (s.setP p).sp k = s.sp k := by
  cases k <;> rfl

@[simp] theorem State.reg_retire (s : State) (n : Nat) (r : Reg) : (s.retire n).reg r = s.reg r := by
  cases r <;> rfl

@[simp] theorem State.reg_setNZ (s : State) (v : Word) (r : Reg) : (s.setNZ v).reg r = s.reg r := by
  cases r <;> rfl

@[simp] theorem State.reg_freeNZ (s : State) (r : Reg) : s.freeNZ.reg r = s.reg r := by
  cases r <;> rfl

/-- A load leaves a stack pointer that is not its register. -/
theorem State.sp_load {k : StackPtr} {r : Reg} (h : r.field s ≠ k.field) (v : Word) :
    (s.load r v).sp k = s.sp k :=
  StackPtr.field_same.1 (s.onlyChanges_load r v k.field (by cases k <;> simpa [StackPtr.field] using h.symm))

end Sys2Proof.Machine
end

section
/-!
SUPPORT. Bytes and words as numbers, the steps of a stack pointer, and pushes and pulls of a byte and of a word.
-/

namespace Sys2Proof.Machine

/-! ### Bytes and words -/

theorem loByte_toNat (v : Word) : (loByte v).toNat = v.toNat % 256 := by
  simp [loByte]

theorem hiByte_toNat (v : Word) : (hiByte v).toNat = v.toNat / 256 := by
  have := v.isLt
  simp only [hiByte, BitVec.extractLsb'_toNat, Nat.shiftRight_eq_div_pow]
  omega

theorem joinBytes_toNat (hi lo : Byte) : (joinBytes hi lo).toNat = hi.toNat * 256 + lo.toNat := by
  rw [joinBytes, BitVec.toNat_append, ← Nat.shiftLeft_add_eq_or_of_lt lo.isLt, Nat.shiftLeft_eq]

@[simp] theorem loByte_joinBytes (hi lo : Byte) : loByte (joinBytes hi lo) = lo := by
  apply BitVec.eq_of_toNat_eq
  have := lo.isLt
  rw [loByte_toNat, joinBytes_toNat]
  omega

theorem joinBytes_zero (b : Byte) : joinBytes 0x00 b = zext b := by
  apply BitVec.eq_of_toNat_eq
  have := b.isLt
  simp only [joinBytes_toNat, zext, BitVec.toNat_setWidth, BitVec.ofNat_eq_ofNat, BitVec.toNat_ofNat]
  omega

/-! ### The steps of a stack pointer -/

namespace StackPtr

variable {k : StackPtr} {v : Word}

/-- A system stack pointer is locked in pages 0 and 1; the auxiliary one never (R79). -/
theorem locked_iff : k.locked v = true ↔ k ≠ .aux ∧ v.toNat < 0x0200 := by
  have hpage : (hiByte v = 0x00 ∨ hiByte v = 0x01) ↔ v.toNat < 0x0200 := by
    simp only [← BitVec.toNat_inj, hiByte_toNat, BitVec.ofNat_eq_ofNat, BitVec.toNat_ofNat]
    omega
  cases k with
  | aux => simp [locked]
  | kernel | user => simpa [locked] using hpage

theorem up_toNat_locked (h : k.locked v = true) :
    (k.up v).toNat = v.toNat / 256 * 256 + (v.toNat % 256 + 1) % 256 := by
  simp [up, h, joinBytes_toNat, hiByte_toNat, loByte_toNat, BitVec.toNat_add]

theorem down_toNat_locked (h : k.locked v = true) :
    (k.down v).toNat = v.toNat / 256 * 256 + (v.toNat % 256 + 255) % 256 := by
  simp only [down, h, if_true, joinBytes_toNat, hiByte_toNat, loByte_toNat, BitVec.toNat_sub,
    BitVec.ofNat_eq_ofNat, BitVec.toNat_ofNat]
  omega

theorem up_toNat_plain (h : k.locked v = false) : (k.up v).toNat = (v.toNat + 1) % 65536 := by
  simp [up, h, BitVec.toNat_add]

theorem down_toNat_plain (h : k.locked v = false) : (k.down v).toNat = (v.toNat + 65535) % 65536 := by
  simp only [down, h, Bool.false_eq_true, if_false, BitVec.toNat_sub, BitVec.ofNat_eq_ofNat,
    BitVec.toNat_ofNat]
  omega

/-- The two bytes of a pushed word lie at different addresses. -/
theorem down_ne (k : StackPtr) (v : Word) : k.down v ≠ v := by
  intro heq
  have hnat := congrArg BitVec.toNat heq
  cases h : k.locked v with
  | true =>
    rw [down_toNat_locked h] at hnat
    omega
  | false =>
    rw [down_toNat_plain h] at hnat
    omega

end StackPtr

/-- Settles O51: the steps of a locked pointer, and of one that is not locked. -/
theorem stackPointerSteps : Obligations.StackPointerSteps := by
  unfold Obligations.StackPointerSteps
  refine fun k v => ⟨fun haux hpage => ?_, fun hplain => ?_⟩
  · have hlocked : k.locked v = true := StackPtr.locked_iff.2 ⟨haux, hpage⟩
    exact ⟨StackPtr.up_toNat_locked hlocked, StackPtr.down_toNat_locked hlocked⟩
  · have hfree : k.locked v = false := by
      rw [Bool.eq_false_iff, Ne, StackPtr.locked_iff]
      rintro ⟨haux, hpage⟩
      exact hplain.elim haux (by omega)
    exact ⟨StackPtr.up_toNat_plain hfree, StackPtr.down_toNat_plain hfree⟩

/-! ### Pushes -/

section Pushes

variable {s t : State} {k : StackPtr}

@[simp] theorem State.readByte_setSp (s : State) (k : StackPtr) (v a : Word) :
    (s.setSp k v).readByte a = s.readByte a := by
  simp [State.readByte]

@[simp] theorem State.sp_push8 (s : State) (k : StackPtr) (b : Byte) : (s.push8 k b).sp k = k.down (s.sp k) := by
  simp [State.push8]

@[simp] theorem State.sp_push16 (s : State) (k : StackPtr) (v : Word) :
    (s.push16 k v).sp k = k.down (k.down (s.sp k)) := by
  simp [State.push16]

theorem State.readByte_push8 (hwf : s.mem.wf = true) (k : StackPtr) (b : Byte) (a : Word) :
    (s.push8 k b).readByte a = if a = s.sp k then b else s.readByte a := by
  rw [State.push8, State.readByte_setSp, State.readByte_writeByte hwf]

theorem State.readByte_push16 (hwf : s.mem.wf = true) (k : StackPtr) (v a : Word) :
    (s.push16 k v).readByte a =
      if a = k.down (s.sp k) then loByte v else if a = s.sp k then hiByte v else s.readByte a := by
  rw [State.push16, State.readByte_push8 (State.wf_push8 hwf k _), State.readByte_push8 hwf, State.sp_push8]

theorem State.pushed8 (hwf : s.mem.wf = true) (k : StackPtr) (b : Byte) : Pushed8 s (s.push8 k b) k b := by
  refine ⟨s.sp_push8 k b, ?_, fun a ha => ?_⟩
  · rw [State.readByte_push8 hwf, if_pos rfl]
  · rw [State.readByte_push8 hwf, if_neg (by simpa using ha)]

theorem State.pushed16 (hwf : s.mem.wf = true) (k : StackPtr) (v : Word) : Pushed16 s (s.push16 k v) k v := by
  refine ⟨s.sp_push16 k v, ?_, ?_, fun a ha => ?_⟩
  · rw [State.readByte_push16 hwf, if_neg (k.down_ne _).symm, if_pos rfl]
  · rw [State.readByte_push16 hwf, if_pos rfl]
  · obtain ⟨hfirst, hsecond⟩ : a ≠ s.sp k ∧ a ≠ k.down (s.sp k) := by simpa using ha
    rw [State.readByte_push16 hwf, if_neg hsecond, if_neg hfirst]

theorem Pushed8.readByte_sp {b : Byte} (h : Pushed8 s t k b) : t.readByte (s.sp k) = b := by
  obtain ⟨-, hbyte, -⟩ := h
  exact hbyte

/-- The end of the instruction leaves what was pushed. -/
theorem Pushed8.retire {b : Byte} (h : Pushed8 s t k b) (n : Nat) : Pushed8 s (t.retire n) k b := by
  obtain ⟨hsp, hbyte, hrest⟩ := h
  exact ⟨(t.sp_retire n k).trans hsp, hbyte, hrest⟩

theorem Pushed16.retire {v : Word} (h : Pushed16 s t k v) (n : Nat) : Pushed16 s (t.retire n) k v := by
  obtain ⟨hsp, hhi, hlo, hrest⟩ := h
  exact ⟨(t.sp_retire n k).trans hsp, hhi, hlo, hrest⟩

end Pushes

/-! ### Pulls -/

@[simp] theorem State.sp_pulled8 (s : State) (k : StackPtr) : (s.pulled8 k).sp k = k.up (s.sp k) := by
  simp [State.pulled8]

@[simp] theorem State.sp_pulled16 (s : State) (k : StackPtr) : (s.pulled16 k).sp k = k.up (k.up (s.sp k)) := by
  simp [State.pulled16]

@[simp] theorem State.readByte_pulled8 (s : State) (k : StackPtr) (a : Word) :
    (s.pulled8 k).readByte a = s.readByte a :=
  s.readByte_setSp k _ a

theorem State.pull8_eq (s : State) (k : StackPtr) : s.pull8 k = s.readByte (k.up (s.sp k)) := rfl

theorem State.pull16_eq (s : State) (k : StackPtr) : s.pull16 k = pulledWord s k := by
  simp [State.pull16, State.pull8_eq, pulledWord]

/-- Settles O52: one rule for each of the four operations, and its frame. -/
theorem pushesAndPulls : Obligations.PushesAndPulls := by
  unfold Obligations.PushesAndPulls
  intro s k hwf
  refine ⟨fun b => ?push8, ?pull8, fun v => ?push16, ?pull16⟩
  case push8 => exact ⟨State.pushed8 hwf k b, s.onlyChanges_push8 k b⟩
  case pull8 =>
    exact ⟨s.pull8_eq k, s.sp_pulled8 k, s.onlyChanges_pulled8 k, sameMemory_of_mem_eq (s.pulled8_mem k)⟩
  case push16 => exact ⟨State.pushed16 hwf k v, s.onlyChanges_push16 k v⟩
  case pull16 =>
    exact ⟨s.pull16_eq k, s.sp_pulled16 k, s.onlyChanges_pulled16 k, sameMemory_of_mem_eq (s.pulled16_mem k)⟩

end Sys2Proof.Machine
end

section
/-!
SUPPORT. What a load leaves in its register and in N and Z, P as a byte, and the instructions that push and pull a
register or P.
-/

namespace Sys2Proof.Machine

/-! ### Results -/

theorem msb_eq_result_n (wide : Bool) (v : Word) : msb wide v = (Result.of wide v).n := by
  cases wide with
  | true => simp [msb, Result.n, Result.of, BitVec.msb_eq_getLsbD_last]
  | false => simp [msb, Result.n, Result.of, BitVec.msb_eq_getLsbD_last, loByte]

theorem zext_eq_zero (b : Byte) : zext b = 0 ↔ b = 0 := by
  have := b.isLt
  simp only [← BitVec.toNat_inj, zext, BitVec.toNat_setWidth, BitVec.ofNat_eq_ofNat, BitVec.toNat_ofNat]
  omega

theorem isZero_eq_result_z (wide : Bool) (v : Word) : isZero wide v = (Result.of wide v).z := by
  cases wide with
  | true => rfl
  | false => exact decide_eq_decide.2 (zext_eq_zero (loByte v))

section Loads

variable {s t u : State} {r : Reg} {x : Result}

theorem State.reg_load (s : State) (r : Reg) (v : Word) : (s.load r v).reg r = (Result.of s.wide v).word r := by
  have hstored : (s.load r v).reg r = r.stored s.wide v := by
    unfold State.load
    split <;> simp
  exact hstored

theorem State.resultFlags_load (s : State) (r : Reg) (v : Word) :
    ResultFlags s (s.load r v) r (.of s.wide v) := by
  by_cases hsp : r = .sp
  · simp [ResultFlags, State.load, hsp, State.freeBit, State.setReg]
  · simp [ResultFlags, State.load, hsp, State.wide, Psw.setNZ, msb_eq_result_n, isZero_eq_result_z]

/-- What a load writes (R330). -/
theorem State.loaded_load (s : State) (r : Reg) (v : Word) : Loaded s (s.load r v) r (.of s.wide v) :=
  ⟨s.reg_load r v, s.resultFlags_load r v⟩

/-- Of the state before a load, what is written depends on the free values drawn so far alone. -/
theorem Loaded.of_free_eq (h : Loaded u t r x) (hfree : u.free = s.free) : Loaded s t r x := by
  simpa [Loaded, ResultFlags, hfree] using h

/-- The end of the instruction leaves what was loaded. -/
theorem Loaded.retire (h : Loaded s t r x) (n : Nat) : Loaded s (t.retire n) r x := by
  obtain ⟨hreg, hflags⟩ := h
  exact ⟨(t.reg_retire n r).trans hreg, hflags⟩

end Loads

theorem completed_retire {s t : State} (hpc : t.pc = s.pc) (n : Nat) : Completed s (t.retire n) n :=
  ⟨congrArg (· + _) hpc, rfl⟩

/-! ### P as a byte -/

/-- The byte as eight bits put together, at the width that this gives. -/
theorem Psw.toByte_eq_cast (p : Psw) (b : Bool) :
    p.toByte b =
      BitVec.cast (n := 1 + 1 + 1 + 1 + 1 + 1 + 1 + 1) rfl
        (BitVec.ofBool p.n ++ BitVec.ofBool p.v ++ BitVec.ofBool p.m ++ BitVec.ofBool b ++ BitVec.ofBool p.d
          ++ BitVec.ofBool p.i ++ BitVec.ofBool p.z ++ BitVec.ofBool p.c) := rfl

theorem Psw.isPByte_toByte (p : Psw) (b : Bool) : IsPByte p b (p.toByte b) := by
  simp only [IsPByte, Psw.toByte_eq_cast, BitVec.getLsbD_cast, BitVec.getLsbD_append, BitVec.getLsbD_ofBool]
  simp

/-- P after a byte is loaded is that byte, but for M and bit 4 (R288). -/
theorem Psw.isPByte_loadFlags (p : Psw) (v : Byte) :
    IsPByte { p.loadFlags v with m := v.getLsbD 5 } (v.getLsbD 4) v :=
  ⟨rfl, rfl, rfl, rfl, rfl, rfl, rfl, rfl⟩

/-! ### Register pushes -/

section PushReg

variable {s : State} {i : Instr} {r : Reg}

theorem exec_of_mem_pushes (h : (i, r) ∈ pushes s) : exec i s = (s.pushReg r).done := by
  simp only [pushes, List.mem_cons, List.not_mem_nil, or_false, Prod.mk.injEq] at h
  obtain ⟨rfl, rfl⟩ | ⟨rfl, rfl⟩ | ⟨rfl, rfl⟩ | ⟨rfl, rfl⟩ := h <;> rfl

theorem State.pushReg_pc (s : State) (r : Reg) : (s.pushReg r).pc = s.pc := by
  unfold State.pushReg
  split <;> simp

theorem State.onlyChanges_pushReg (s : State) (r : Reg) : OnlyChanges [s.stackPtr.field] s (s.pushReg r) := by
  unfold State.pushReg
  split
  next => exact s.onlyChanges_push16 _ _
  next => exact s.onlyChanges_push8 _ _

theorem State.pushed_pushReg (hwf : s.mem.wf = true) (r : Reg) (n : Nat) :
    if s.wide then Pushed16 s ((s.pushReg r).retire n) s.stackPtr (s.reg r)
    else Pushed8 s ((s.pushReg r).retire n) s.stackPtr (loByte (s.reg r)) := by
  cases hwide : s.wide with
  | true => simpa [State.pushReg, hwide] using (State.pushed16 hwf s.stackPtr (s.reg r)).retire n
  | false => simpa [State.pushReg, hwide] using (State.pushed8 hwf s.stackPtr (loByte (s.reg r))).retire n

end PushReg

/-- Settles O53: a register push is one of O52's pushes, and `php` pushes P as a byte. -/
theorem registerPushes : Obligations.RegisterPushes := by
  unfold Obligations.RegisterPushes
  intro s hwf
  refine ⟨fun i r hir => ?register, ?php⟩
  case register =>
    exact ⟨(s.pushReg r).retire 1, exec_of_mem_pushes hir, State.pushed_pushReg hwf r 1,
      completed_retire (s.pushReg_pc r) 1, (s.onlyChanges_pushReg r).trans (State.onlyChanges_retire _ 1)⟩
  case php =>
    have hpushed := (State.pushed8 hwf s.stackPtr (s.p.toByte true)).retire 1
    have hbyte := hpushed.readByte_sp
    refine ⟨(s.push8 s.stackPtr (s.p.toByte true)).retire 1, rfl, ?_, ?_, completed_retire (s.push8_pc ..) 1,
      (s.onlyChanges_push8 _ _).trans (State.onlyChanges_retire _ 1)⟩
    · rw [hbyte]
      exact s.p.isPByte_toByte true
    · rw [hbyte]
      exact hpushed

/-! ### Register pulls -/

/-- The state after a pull at the operation width, before the value is written. -/
def State.pulledOp (s : State) : State := if s.wide then s.pulled16 s.stackPtr else s.pulled8 s.stackPtr

/-- The value of a pull at the operation width. -/
def State.pullOp (s : State) : Word :=
  if s.wide then pulledWord s s.stackPtr else joinBytes 0x00 (s.readByte (s.stackPtr.up (s.sp s.stackPtr)))

section PullReg

variable {s : State} {i : Instr} {r : Reg}

theorem exec_of_mem_pulls (h : (i, r) ∈ pulls s) : exec i s = (s.pullReg r).done := by
  simp only [pulls, List.mem_cons, List.not_mem_nil, or_false, Prod.mk.injEq] at h
  obtain ⟨rfl, rfl⟩ | ⟨rfl, rfl⟩ | ⟨rfl, rfl⟩ | ⟨rfl, rfl⟩ := h <;> rfl

/-- A register pull steps the pointer, and then writes the register. -/
theorem State.pullReg_eq (s : State) (r : Reg) : s.pullReg r = s.pulledOp.load r s.pullOp := by
  unfold State.pullReg State.pulledOp State.pullOp
  split
  next => rw [State.pull16_eq]
  next => rw [joinBytes_zero, State.pull8_eq]

theorem State.sp_pulledOp (s : State) :
    s.pulledOp.sp s.stackPtr =
      if s.wide then s.stackPtr.up (s.stackPtr.up (s.sp s.stackPtr)) else s.stackPtr.up (s.sp s.stackPtr) := by
  unfold State.pulledOp
  split <;> simp

theorem State.onlyChanges_pulledOp (s : State) : OnlyChanges [s.stackPtr.field] s s.pulledOp := by
  unfold State.pulledOp
  split
  next => exact s.onlyChanges_pulled16 _
  next => exact s.onlyChanges_pulled8 _

@[simp] theorem State.pulledOp_mem (s : State) : s.pulledOp.mem = s.mem := by
  unfold State.pulledOp
  split <;> simp

@[simp] theorem State.pulledOp_pc (s : State) : s.pulledOp.pc = s.pc := by
  unfold State.pulledOp
  split <;> simp

@[simp] theorem State.pulledOp_p (s : State) : s.pulledOp.p = s.p := by
  unfold State.pulledOp
  split <;> simp

@[simp] theorem State.pulledOp_free (s : State) : s.pulledOp.free = s.free := by
  unfold State.pulledOp
  split <;> simp

@[simp] theorem State.pulledOp_wide (s : State) : s.pulledOp.wide = s.wide := by
  unfold State.pulledOp
  split <;> simp [State.wide]

theorem Reg.field_pulledOp (s : State) (r : Reg) : r.field s.pulledOp = r.field s :=
  r.field_congr (congrArg Psw.m s.pulledOp_p)

theorem State.loaded_pullReg (s : State) (r : Reg) : Loaded s (s.pullReg r) r (.of s.wide s.pullOp) := by
  have hload := (s.pulledOp.loaded_load r s.pullOp).of_free_eq s.pulledOp_free
  rwa [s.pulledOp_wide, ← s.pullReg_eq] at hload

/-- Where the register is not the pointer, the pointer is one or two steps up. -/
theorem State.sp_pullReg (h : r.field s ≠ s.stackPtr.field) :
    (s.pullReg r).sp s.stackPtr =
      if s.wide then s.stackPtr.up (s.stackPtr.up (s.sp s.stackPtr)) else s.stackPtr.up (s.sp s.stackPtr) := by
  rw [← s.sp_pulledOp, s.pullReg_eq]
  exact State.sp_load (by rwa [Reg.field_pulledOp]) _

theorem State.onlyChanges_pullReg (s : State) (r : Reg) :
    OnlyChanges [s.stackPtr.field, r.field s, .n, .z, .free] s (s.pullReg r) := by
  rw [s.pullReg_eq, ← Reg.field_pulledOp]
  exact s.onlyChanges_pulledOp.trans (s.pulledOp.onlyChanges_load r _)

theorem State.pullReg_mem (s : State) (r : Reg) : (s.pullReg r).mem = s.mem := by
  simp [s.pullReg_eq]

theorem State.pullReg_pc (s : State) (r : Reg) : (s.pullReg r).pc = s.pc := by
  simp [s.pullReg_eq]

end PullReg

/-- The state after `plp`, before the instruction ends. -/
def State.pulledP (s : State) : State := (s.pulled8 s.stackPtr).setP (s.p.loadFlags (s.pull8 s.stackPtr))

theorem exec_plp (s : State) : exec .plp s = s.pulledP.done := rfl

theorem State.onlyChanges_pulledP (s : State) :
    OnlyChanges [s.stackPtr.field, .n, .v, .d, .i, .z, .c] s s.pulledP :=
  (s.onlyChanges_pulled8 s.stackPtr).trans
    (State.onlyChanges_setP (congrArg Psw.m (s.pulled8_p s.stackPtr)).symm)

/-- Settles O54: a register pull steps the pointer and then loads the register, so that the value stays where the two
are one; `plp` takes all flags of the byte but M. -/
theorem registerPulls : Obligations.RegisterPulls := by
  unfold Obligations.RegisterPulls
  intro s
  refine ⟨fun i r hir => ?register, ?plp⟩
  case register =>
    exact ⟨(s.pullReg r).retire 1, exec_of_mem_pulls hir, (s.loaded_pullReg r).retire 1,
      fun hne => (State.sp_retire ..).trans (State.sp_pullReg hne), completed_retire (s.pullReg_pc r) 1,
      (s.onlyChanges_pullReg r).trans (State.onlyChanges_retire _ 1), sameMemory_of_mem_eq (s.pullReg_mem r)⟩
  case plp =>
    exact ⟨s.pulledP.retire 1, exec_plp s, by simp [State.pulledP], s.p.isPByte_loadFlags _,
      completed_retire (s.pulled8_pc s.stackPtr) 1,
      s.onlyChanges_pulledP.trans (State.onlyChanges_retire _ 1), sameMemory_of_mem_eq (s.pulled8_mem s.stackPtr)⟩

end Sys2Proof.Machine
end

section
/-!
SUPPORT. The decoder as a relation. `Shape.Makes` says which operand bytes a cell of the opcode map takes and which
instruction it makes of them; `decode_eq_ok` says that the decoder reads an opcode byte and then what its cell takes.
-/

namespace Sys2Proof.Machine

@[simp] theorem hiByte_joinBytes (hi lo : Byte) : hiByte (joinBytes hi lo) = hi := by
  apply BitVec.eq_of_toNat_eq
  have := lo.isLt
  rw [hiByte_toNat, joinBytes_toNat]
  omega

@[simp] theorem joinBytes_hiByte_loByte (w : Word) : joinBytes (hiByte w) (loByte w) = w := by
  apply BitVec.eq_of_toNat_eq
  rw [joinBytes_toNat, hiByte_toNat, loByte_toNat]
  omega

end Sys2Proof.Machine

namespace Sys2Proof

open Machine

/-! ### Cells -/

/-- A cell takes these operand bytes and makes this instruction of them (R101, R103). -/
inductive Shape.Makes (f : PrefixFlags) : Shape → List Byte → Instr → Prop
  | imp {i : Instr} : Makes f (.imp i) [] i
  | byte {k : Byte → Instr} {b : Byte} : Makes f (.byte k) [b] (k b)
  | word {k : Word → Instr} {w : Word} : Makes f (.word k) (wordBytes w) (k w)
  | imm8 {k : Imm → Instr} {b : Byte} (h : f.siz = false) : Makes f (.imm k) [b] (k (.b8 b))
  | imm16 {k : Imm → Instr} {w : Word} (h : f.siz = true) : Makes f (.imm k) (wordBytes w) (k (.b16 w))
  | zprel {k : Byte → Byte → Instr} {b1 b2 : Byte} : Makes f (.zprel k) [b1, b2] (k b1 b2)

/-- A cell takes as many bytes as it has operands (R101, R102), and fills them in. -/
theorem Shape.Makes.spec {f : PrefixFlags} {c : Shape} {operand : List Byte} {i : Instr} (h : c.Makes f operand i)
    (rest : List Byte) :
    operand.length = c.operands f ∧ c.fill f ((operand ++ rest).getD 0 0) ((operand ++ rest).getD 1 0) = i := by
  cases h with
  | imp | byte | word | zprel => simp [operands, fill, wordBytes]
  | imm8 h | imm16 h => simp [operands, fill, wordBytes, h]

/-- Where there are enough bytes, a cell makes an instruction of them. -/
theorem Shape.makes_fill {f : PrefixFlags} {c : Shape} {bytes : List Byte} (h : c.operands f ≤ bytes.length) :
    c.Makes f (bytes.take (c.operands f)) (c.fill f (bytes.getD 0 0) (bytes.getD 1 0)) := by
  match c, bytes, h with
  | .imp i, _, _ => exact .imp
  | .byte k, b1 :: _, _ => exact .byte
  | .word k, b1 :: b2 :: _, _ => simpa [operands, fill, wordBytes] using Makes.word (k := k) (w := joinBytes b2 b1)
  | .zprel k, b1 :: b2 :: _, _ => exact .zprel
  | .imm k, bytes, h =>
    cases hsiz : f.siz with
    | false =>
      have hlen : 1 ≤ bytes.length := by simpa [operands, hsiz] using h
      match bytes, hlen with
      | b1 :: _, _ => simpa [operands, fill, hsiz] using Makes.imm8 hsiz
    | true =>
      have hlen : 2 ≤ bytes.length := by simpa [operands, hsiz] using h
      match bytes, hlen with
      | b1 :: b2 :: _, _ =>
        simpa [operands, fill, hsiz, wordBytes] using Makes.imm16 (k := k) (w := joinBytes b2 b1) hsiz

/-- The decoder reads an opcode byte and the operand bytes that its cell takes. -/
theorem decode_eq_ok {v : Variant} {f : PrefixFlags} {bytes rest : List Byte} {i : Instr} :
    decode v f bytes = .ok (i, rest) ↔
      ∃ op operand, bytes = op :: (operand ++ rest) ∧ (shape v f op).Makes f operand i := by
  constructor
  case mp =>
    intro h
    match bytes with
    | [] => cases h
    | op :: tail =>
      simp only [decode] at h
      split at h
      next => cases h
      next hlen =>
        obtain ⟨rfl, rfl⟩ := Prod.mk_inj.1 (Except.ok.inj h)
        exact ⟨op, _, by rw [List.take_append_drop], Shape.makes_fill (Nat.le_of_not_lt hlen)⟩
  case mpr =>
    rintro ⟨op, operand, rfl, h⟩
    obtain ⟨hlen, hfill⟩ := h.spec rest
    simp only [decode, decodeAt, hfill, ← hlen]
    simp

end Sys2Proof
end

section
/-!
SUPPORT. From cells to instructions: what a cell of the opcode map makes is well-formed, and its encoding is the opcode
of the cell and the operand bytes.
-/

namespace Sys2Proof

/-- Whatever the cell of an opcode makes is well-formed and encodes to the opcode and the operand bytes. -/
def Encoded (v : Variant) (f : PrefixFlags) (op : Byte) (c : Shape) : Prop :=
  ∀ operand i, c.Makes f operand i → i.wellFormed v f = true ∧ encode i = op :: operand

namespace Encoded

variable {v : Variant} {f : PrefixFlags} {op : Byte}

/-! ### Cells of one form: what a cell asks for is read off the model's tables -/

theorem imp {i : Instr} (hw : i.wellFormed v f = true := by rfl) (he : encode i = [op] := by rfl) :
    Encoded v f op (.imp i)
  | _, _, .imp => ⟨hw, he⟩

theorem byte {k : Byte → Instr} (hw : ∀ b, (k b).wellFormed v f = true := by exact fun _ => rfl)
    (he : ∀ b, encode (k b) = [op, b] := by exact fun _ => rfl) : Encoded v f op (.byte k)
  | _, _, .byte => ⟨hw _, he _⟩

theorem word {k : Word → Instr} (hw : ∀ w, (k w).wellFormed v f = true := by exact fun _ => rfl)
    (he : ∀ w, encode (k w) = op :: wordBytes w := by exact fun _ => rfl) : Encoded v f op (.word k)
  | _, _, .word => ⟨hw _, he _⟩

theorem zprel {k : Byte → Byte → Instr} (hw : ∀ b1 b2, (k b1 b2).wellFormed v f = true := by exact fun _ _ => rfl)
    (he : ∀ b1 b2, encode (k b1 b2) = [op, b1, b2] := by exact fun _ _ => rfl) : Encoded v f op (.zprel k)
  | _, _, .zprel => ⟨hw _ _, he _ _⟩

/-- An immediate cell: SIZ selects the width, which is all that the cell asks for. -/
theorem imm {k : Imm → Instr} (hw : ∀ imm, (k imm).wellFormed v f = (k imm).widthOk f := by exact fun _ => rfl)
    (hi : ∀ imm, (k imm).imm? = some imm := by exact fun _ => rfl)
    (he : ∀ imm, encode (k imm) = op :: imm.bytes := by exact fun _ => rfl) : Encoded v f op (.imm k)
  | _, _, .imm8 hsiz => ⟨by simp [hw, hi, Instr.widthOk, hsiz], he _⟩
  | _, _, .imm16 hsiz => ⟨by simp [hw, hi, Instr.widthOk, hsiz], he _⟩

/-! ### Cells of more than one form -/

variable {ind siz oax oay osx : Bool} {t e : Shape}

/-- The variant selects the form (R107). -/
theorem onHll (ht : Encoded .hll f op t) (he : Encoded .w65c02s f op e) :
    Encoded v f op (.select (decide (v = .hll)) t e) := by
  cases v with
  | hll => exact ht
  | w65c02s => exact he

/-- IND selects the form (R110). -/
theorem onInd (ht : Encoded v ⟨true, siz, oax, oay, osx⟩ op t) (he : Encoded v ⟨false, siz, oax, oay, osx⟩ op e) :
    Encoded v ⟨ind, siz, oax, oay, osx⟩ op (.select ind t e) := by
  cases ind with
  | true => exact ht
  | false => exact he

/-- SIZ selects the form (R110). -/
theorem onSiz (ht : Encoded v ⟨ind, true, oax, oay, osx⟩ op t) (he : Encoded v ⟨ind, false, oax, oay, osx⟩ op e) :
    Encoded v ⟨ind, siz, oax, oay, osx⟩ op (.select siz t e) := by
  cases siz with
  | true => exact ht
  | false => exact he

/-- OSX selects the form (R110). -/
theorem onOsx (ht : Encoded v ⟨ind, siz, oax, oay, true⟩ op t) (he : Encoded v ⟨ind, siz, oax, oay, false⟩ op e) :
    Encoded v ⟨ind, siz, oax, oay, osx⟩ op (.select osx t e) := by
  cases osx with
  | true => exact ht
  | false => exact he

end Encoded

/-! ### The rows of the opcode map -/

/-- The cells of a row hold the opcodes from `n` on. -/
def RowEncoded (v : Variant) (f : PrefixFlags) : Nat → List Shape → Prop
  | _, [] => True
  | n, c :: cs => Encoded v f (BitVec.ofNat 8 n) c ∧ RowEncoded v f (n + 1) cs

section Rows

open Encoded

variable (v : Variant) (ind siz oax oay osx : Bool)

theorem rowEncoded_0 :
    RowEncoded v ⟨ind, siz, oax, oay, osx⟩ 0x00 (opcodeRow0 v ⟨ind, siz, oax, oay, osx⟩) := by
  simp only [opcodeRow0, RowEncoded]
  exact ⟨byte, byte, byte, byte, byte, byte, byte, onHll byte byte, imp, imm, onInd imp imp,
    onInd (onSiz imp imp) (onSiz imp imp), word, word, word, onHll byte zprel, trivial⟩

theorem rowEncoded_1 :
    RowEncoded v ⟨ind, siz, oax, oay, osx⟩ 0x10 (opcodeRow1 v ⟨ind, siz, oax, oay, osx⟩) := by
  simp only [opcodeRow1, RowEncoded]
  exact ⟨onInd (onSiz word word) (onSiz byte byte), byte, byte, byte, byte, byte, byte, onHll byte byte, imp,
    word, onInd imp imp, onInd imp imp, word, word, word, onHll byte zprel, trivial⟩

theorem rowEncoded_2 :
    RowEncoded v ⟨ind, siz, oax, oay, osx⟩ 0x20 (opcodeRow2 v ⟨ind, siz, oax, oay, osx⟩) := by
  simp only [opcodeRow2, RowEncoded]
  exact ⟨word, byte, byte, byte, byte, byte, byte, onHll byte byte, imp, imm, onInd imp imp, onInd imp imp, word,
    word, word, onHll byte zprel, trivial⟩

theorem rowEncoded_3 :
    RowEncoded v ⟨ind, siz, oax, oay, osx⟩ 0x30 (opcodeRow3 v ⟨ind, siz, oax, oay, osx⟩) := by
  simp only [opcodeRow3, RowEncoded]
  exact ⟨onInd (onSiz word word) (onSiz byte byte), byte, byte, byte, byte, byte, byte, onHll byte byte, imp,
    word, onInd imp imp, onInd imp imp, word, word, word, onHll byte zprel, trivial⟩

theorem rowEncoded_4 :
    RowEncoded v ⟨ind, siz, oax, oay, osx⟩ 0x40 (opcodeRow4 v ⟨ind, siz, oax, oay, osx⟩) := by
  simp only [opcodeRow4, RowEncoded]
  exact ⟨imp, byte, byte, byte, byte, byte, byte, onHll byte byte, imp, imm, onInd (onSiz imp imp) imp,
    onInd imp imp, word, word, word, onHll byte zprel, trivial⟩

theorem rowEncoded_5 :
    RowEncoded v ⟨ind, siz, oax, oay, osx⟩ 0x50 (opcodeRow5 v ⟨ind, siz, oax, oay, osx⟩) := by
  simp only [opcodeRow5, RowEncoded]
  exact ⟨onInd (onSiz word word) (onSiz byte byte), byte, byte, byte, word, byte, byte, onHll byte byte, imp,
    word, imp, onInd imp imp, word, word, word, onHll byte zprel, trivial⟩

theorem rowEncoded_6 :
    RowEncoded v ⟨ind, siz, oax, oay, osx⟩ 0x60 (opcodeRow6 v ⟨ind, siz, oax, oay, osx⟩) := by
  simp only [opcodeRow6, RowEncoded]
  exact ⟨imp, byte, byte, byte, byte, byte, byte, onHll byte byte, imp, imm, imp, onInd imp imp, word, word,
    word, onHll imp zprel, trivial⟩

theorem rowEncoded_7 :
    RowEncoded v ⟨ind, siz, oax, oay, osx⟩ 0x70 (opcodeRow7 v ⟨ind, siz, oax, oay, osx⟩) := by
  simp only [opcodeRow7, RowEncoded]
  exact ⟨onInd (onSiz word word) (onSiz byte byte), byte, byte, byte, byte, byte, byte, onHll byte byte, imp,
    word, imp, onInd imp imp, word, word, word, onHll byte zprel, trivial⟩

theorem rowEncoded_8 :
    RowEncoded v ⟨ind, siz, oax, oay, osx⟩ 0x80 (opcodeRow8 v ⟨ind, siz, oax, oay, osx⟩) := by
  simp only [opcodeRow8, RowEncoded]
  exact ⟨onInd word byte, byte, imp, byte, byte, byte, onOsx byte byte, onHll byte byte, imp, imm, onOsx imp imp,
    imp, word, word, onOsx word word, onHll imp zprel, trivial⟩

theorem rowEncoded_9 :
    RowEncoded v ⟨ind, siz, oax, oay, osx⟩ 0x90 (opcodeRow9 v ⟨ind, siz, oax, oay, osx⟩) := by
  simp only [opcodeRow9, RowEncoded]
  exact ⟨onInd (onSiz word word) (onSiz byte byte), byte, byte, byte, byte, byte, onOsx byte byte,
    onHll byte byte, imp, word, imp, imp, word, word, word, onHll byte zprel, trivial⟩

theorem rowEncoded_A :
    RowEncoded v ⟨ind, siz, oax, oay, osx⟩ 0xA0 (opcodeRowA v ⟨ind, siz, oax, oay, osx⟩) := by
  simp only [opcodeRowA, RowEncoded]
  exact ⟨imm, byte, onOsx imm imm, byte, byte, byte, onOsx byte byte, onHll byte byte, imp, imm, onOsx imp imp,
    imp, word, word, onOsx word word, onHll imp zprel, trivial⟩

theorem rowEncoded_B :
    RowEncoded v ⟨ind, siz, oax, oay, osx⟩ 0xB0 (opcodeRowB v ⟨ind, siz, oax, oay, osx⟩) := by
  simp only [opcodeRowB, RowEncoded]
  exact ⟨onInd (onSiz word word) (onSiz byte byte), byte, byte, byte, byte, byte, onOsx byte byte,
    onHll byte byte, imp, word, imp, imp, word, word, onOsx word word, onHll byte zprel, trivial⟩

theorem rowEncoded_C :
    RowEncoded v ⟨ind, siz, oax, oay, osx⟩ 0xC0 (opcodeRowC v ⟨ind, siz, oax, oay, osx⟩) := by
  simp only [opcodeRowC, RowEncoded]
  exact ⟨imm, byte, byte, byte, byte, byte, byte, onHll byte byte, imp, imm, onOsx imp imp, imp, word, word,
    word, onHll byte zprel, trivial⟩

theorem rowEncoded_D :
    RowEncoded v ⟨ind, siz, oax, oay, osx⟩ 0xD0 (opcodeRowD v ⟨ind, siz, oax, oay, osx⟩) := by
  simp only [opcodeRowD, RowEncoded]
  exact ⟨onInd (onSiz word word) (onSiz byte byte), byte, byte, byte, byte, byte, byte, onHll byte byte, imp,
    word, onOsx imp imp, imp, word, word, word, onHll byte zprel, trivial⟩

theorem rowEncoded_E :
    RowEncoded v ⟨ind, siz, oax, oay, osx⟩ 0xE0 (opcodeRowE v ⟨ind, siz, oax, oay, osx⟩) := by
  simp only [opcodeRowE, RowEncoded]
  exact ⟨onOsx imm imm, byte, byte, byte, onOsx byte byte, byte, byte, onHll byte byte, onOsx imp imp, imm, imp,
    imp, onOsx word word, word, word, onHll byte zprel, trivial⟩

theorem rowEncoded_F :
    RowEncoded v ⟨ind, siz, oax, oay, osx⟩ 0xF0 (opcodeRowF v ⟨ind, siz, oax, oay, osx⟩) := by
  simp only [opcodeRowF, RowEncoded]
  exact ⟨onInd (onSiz word word) (onSiz byte byte), byte, byte, byte, byte, byte, byte, onHll byte byte, imp,
    word, onOsx imp imp, imp, word, word, word, onHll byte zprel, trivial⟩

end Rows

theorem RowEncoded.getD {v : Variant} {f : PrefixFlags} {cs : List Shape} (d : Shape) :
    ∀ {n k : Nat}, RowEncoded v f n cs → k < cs.length → Encoded v f (BitVec.ofNat 8 (n + k)) (cs.getD k d) := by
  induction cs with
  | nil => nofun
  | cons c cs ih =>
    rintro n k ⟨hc, hcs⟩ hk
    cases k with
    | zero => exact hc
    | succ k => simpa [Nat.add_right_comm, Nat.add_assoc] using ih hcs (Nat.lt_of_succ_lt_succ hk)

/-- The rows of 16 cells hold the opcodes from `n` on. -/
def MapEncoded (v : Variant) (f : PrefixFlags) : Nat → List (List Shape) → Prop
  | _, [] => True
  | n, r :: rs => (r.length = 16 ∧ RowEncoded v f n r) ∧ MapEncoded v f (n + 16) rs

theorem MapEncoded.getD {v : Variant} {f : PrefixFlags} {rs : List (List Shape)} (d : List Shape) :
    ∀ {n k : Nat}, MapEncoded v f n rs → k < rs.length →
      (rs.getD k d).length = 16 ∧ RowEncoded v f (n + 16 * k) (rs.getD k d) := by
  induction rs with
  | nil => nofun
  | cons r rs ih =>
    rintro n k ⟨hr, hrs⟩ hk
    cases k with
    | zero => exact hr
    | succ k => simpa [Nat.mul_succ, Nat.add_assoc, Nat.add_comm 16] using ih hrs (Nat.lt_of_succ_lt_succ hk)

theorem mapEncoded_opcodeMap (v : Variant) : ∀ f, MapEncoded v f 0 (opcodeMap v f)
  | ⟨i, s, a, y, o⟩ => by
    simp only [opcodeMap, MapEncoded]
    exact ⟨⟨rfl, rowEncoded_0 v i s a y o⟩, ⟨rfl, rowEncoded_1 v i s a y o⟩, ⟨rfl, rowEncoded_2 v i s a y o⟩,
      ⟨rfl, rowEncoded_3 v i s a y o⟩, ⟨rfl, rowEncoded_4 v i s a y o⟩, ⟨rfl, rowEncoded_5 v i s a y o⟩,
      ⟨rfl, rowEncoded_6 v i s a y o⟩, ⟨rfl, rowEncoded_7 v i s a y o⟩, ⟨rfl, rowEncoded_8 v i s a y o⟩,
      ⟨rfl, rowEncoded_9 v i s a y o⟩, ⟨rfl, rowEncoded_A v i s a y o⟩, ⟨rfl, rowEncoded_B v i s a y o⟩,
      ⟨rfl, rowEncoded_C v i s a y o⟩, ⟨rfl, rowEncoded_D v i s a y o⟩, ⟨rfl, rowEncoded_E v i s a y o⟩,
      ⟨rfl, rowEncoded_F v i s a y o⟩, trivial⟩

/-- The cell of every opcode makes well-formed instructions that encode to that opcode (R100). -/
theorem encoded_shape (v : Variant) (f : PrefixFlags) (op : Byte) : Encoded v f op (shape v f op) := by
  have hop := op.isLt
  have hrow : op.toNat / 16 < (opcodeMap v f).length := by
    simp only [opcodeMap, List.length_cons, List.length_nil]
    omega
  obtain ⟨hlen, hcells⟩ := (mapEncoded_opcodeMap v f).getD [] hrow
  have hcell := hcells.getD (.imp .nop) (k := op.toNat % 16) (by omega)
  have hnat : 0 + 16 * (op.toNat / 16) + op.toNat % 16 = op.toNat := by omega
  rwa [hnat, BitVec.ofNat_toNat, BitVec.setWidth_eq] at hcell

/-- Settles O2: the bytes read are an opcode and the operand bytes that its cell takes. -/
theorem decodeThenEncode : Obligations.DecodeThenEncode := by
  unfold Obligations.DecodeThenEncode
  intro v f bytes rest i h
  obtain ⟨op, operand, rfl, hmakes⟩ := decode_eq_ok.1 h
  obtain ⟨hw, he⟩ := encoded_shape v f op operand i hmakes
  exact ⟨hw, by rw [he, List.cons_append]⟩

end Sys2Proof
end

section
/-!
SUPPORT. From instructions to cells: the opcode of every well-formed instruction has a cell that makes it.
-/

namespace Sys2Proof

/-! ### What a well-formed instruction asks of the variant and of the prefix flags -/

theorem meets_some {α : Type} [DecidableEq α] {w x : α} : meets (some w) x = true ↔ x = w := by
  simp [meets, eq_comm]

section WellFormed

variable {v : Variant} {f : PrefixFlags} {i : Instr}

theorem Instr.wellFormed_iff :
    i.wellFormed v f = true ↔
      meets i.row.variant v = true ∧
        (meets i.row.ind f.ind = true ∧ meets i.row.siz f.siz = true ∧ meets i.row.osx f.osx = true) ∧
        i.modeOk v = true ∧ i.widthOk f = true := by
  simp [wellFormed, variantOk, formOk, and_assoc]

theorem Instr.variant_of_wellFormed {w : Variant} (h : i.wellFormed v f = true) (hr : i.row.variant = some w) :
    v = w := by
  obtain ⟨hv, -⟩ := wellFormed_iff.1 h
  exact meets_some.1 (hr ▸ hv)

theorem Instr.ind_of_wellFormed {b : Bool} (h : i.wellFormed v f = true) (hr : i.row.ind = some b) : f.ind = b := by
  obtain ⟨-, ⟨hind, -⟩, -⟩ := wellFormed_iff.1 h
  exact meets_some.1 (hr ▸ hind)

theorem Instr.siz_of_wellFormed {b : Bool} (h : i.wellFormed v f = true) (hr : i.row.siz = some b) : f.siz = b := by
  obtain ⟨-, ⟨-, hsiz, -⟩, -⟩ := wellFormed_iff.1 h
  exact meets_some.1 (hr ▸ hsiz)

theorem Instr.osx_of_wellFormed {b : Bool} (h : i.wellFormed v f = true) (hr : i.row.osx = some b) : f.osx = b := by
  obtain ⟨-, ⟨-, -, hosx⟩, -⟩ := wellFormed_iff.1 h
  exact meets_some.1 (hr ▸ hosx)

theorem Instr.modeOk_of_wellFormed (h : i.wellFormed v f = true) : i.modeOk v = true := by
  obtain ⟨-, -, hmode, -⟩ := wellFormed_iff.1 h
  exact hmode

theorem Instr.widthOk_of_wellFormed (h : i.wellFormed v f = true) : i.widthOk f = true := by
  obtain ⟨-, -, -, hwidth⟩ := wellFormed_iff.1 h
  exact hwidth

end WellFormed

/-! ### Operands -/

/-- The encoding of an instruction is an opcode and the operand bytes of which the cell of that opcode makes it. -/
def HasCell (v : Variant) (f : PrefixFlags) (i : Instr) : Prop :=
  ∃ op operand, encode i = op :: operand ∧ (shape v f op).Makes f operand i

/-- An immediate of the width that SIZ gives it. -/
theorem Shape.makes_imm {f : PrefixFlags} {k : Imm → Instr} {imm : Imm} (hi : (k imm).imm? = some imm)
    (h : (k imm).widthOk f = true) : (Shape.imm k).Makes f imm.bytes (k imm) := by
  unfold Instr.widthOk at h
  rw [hi] at h
  cases imm with
  | b8 b => exact .imm8 (by simpa using h)
  | b16 w => exact .imm16 h

/-- The cell of a memory instruction in a mode (R101). -/
def modeCell (k : Mode → Instr) : ModeKind → Shape
  | .zp => .byte fun b => k (.zp b)
  | .zpX => .byte fun b => k (.zpX b)
  | .zpY => .byte fun b => k (.zpY b)
  | .zpInd => .byte fun b => k (.zpInd b)
  | .zpXInd => .byte fun b => k (.zpXInd b)
  | .zpIndY => .byte fun b => k (.zpIndY b)
  | .abs => .word fun w => k (.abs w)
  | .absX => .word fun w => k (.absX w)
  | .absY => .word fun w => k (.absY w)
  | .sp => .byte fun b => k (.sp b)
  | .spIndY => .byte fun b => k (.spIndY b)
  | .bp => .byte fun b => k (.bp b)
  | .ip => .byte fun b => k (.ip b)

theorem modeCell_makes (f : PrefixFlags) (k : Mode → Instr) (m : Mode) :
    (modeCell k m.kind).Makes f m.bytes (k m) := by
  cases m with
  | zp | zpX | zpY | zpInd | zpXInd | zpIndY | sp | spIndY | bp | ip => exact .byte
  | abs | absX | absY => exact .word

/-- The modes of a mnemonic that a variant has. -/
def modesOf (v : Variant) (rows : List ModeRow) : List ModeKind :=
  (rows.filter fun r => meets r.variant v).map ModeRow.kind

theorem Instr.kind_mem_modesOf {v : Variant} {i : Instr} {m : Mode} {rows : List ModeRow}
    (hi : i.mode? = some (m, rows)) (h : i.modeOk v = true) : m.kind ∈ modesOf v rows := by
  simp only [modeOk, hi, List.any_eq_true, Bool.and_eq_true, decide_eq_true_eq] at h
  obtain ⟨r, hr, hkind, hv⟩ := h
  exact List.mem_map.2 ⟨r, List.mem_filter.2 ⟨hr, hv⟩, hkind⟩

/-- A memory instruction, when each mode of its mnemonic has an opcode, whose cell is of that mode. -/
theorem hasCell_of_modes {v : Variant} {f : PrefixFlags} {k : Mode → Instr} {m : Mode} {rows : List ModeRow}
    {opcodes : List (ModeKind × Byte)} (h : (k m).wellFormed v f = true) (hi : (k m).mode? = some (m, rows))
    (he : encode (k m) = modeBytes opcodes m)
    (hcells : (modesOf v rows).map (fun kind => (opcodes.lookup kind).map (shape v f)) =
      (modesOf v rows).map fun kind => some (modeCell k kind)) :
    HasCell v f (k m) := by
  have hkind := Instr.kind_mem_modesOf hi (Instr.modeOk_of_wellFormed h)
  obtain ⟨op, hop, hcell⟩ := Option.map_eq_some_iff.1 (List.map_inj_left.1 hcells _ hkind)
  exact ⟨op, m.bytes, by simp [he, modeBytes, hop], hcell ▸ modeCell_makes f k m⟩

/-- The encoding of every well-formed instruction finds its cell: the instructions by what selects their form, and by
their operand. -/
theorem hasCell_of_wellFormed {v : Variant} {f : PrefixFlags} {i : Instr} (h : i.wellFormed v f = true) :
    HasCell v f i := by
  obtain ⟨ind, siz, oax, oay, osx⟩ := f
  cases i with
  -- one form
  | php | clc | plp | sec | rti | pha | cli | phy | rts | pla | rorA | sei | ply | unassigned82 | dey | osx
  | tya | txs | ind | tay | siz | clv | tsx | isz | iny | wai | cld | stp | nop | oax | sed | oay =>
    exact ⟨_, _, rfl, .imp⟩
  | brk imm | cop imm | adj imm | xma sp | mov imm | add ip => exact ⟨_, _, rfl, .byte⟩
  | jsr abs | jmpAbs abs | pshImm imm | phr rel | jmpInd abs | jmpIndX abs => exact ⟨_, _, rfl, .word⟩
  | oraImm imm | andImm imm | eorImm imm | adcImm imm | bitImm imm | ldyImm imm | ldaImm imm | cpyImm imm
  | cmpImm imm | sbcImm imm => exact ⟨_, _, rfl, Shape.makes_imm rfl (Instr.widthOk_of_wellFormed h)⟩
  | ora m | tsb m | asl m | trb m | and m | bit m | rol m | eor m | lsr m | adc m | stz m | ror m | sta m
  | sty m | lda m | ldy m | cmp m | cpy m | dec m | psh m | sbc m | inc m | pul m =>
    cases v <;> exact hasCell_of_modes h rfl rfl rfl
  -- the HLL variant
  | unassigned6F | unassigned8F | unassignedAF =>
    obtain rfl := Instr.variant_of_wellFormed h rfl
    exact ⟨_, _, rfl, .imp⟩
  | sub ip =>
    obtain rfl := Instr.variant_of_wellFormed h rfl
    exact ⟨_, _, rfl, .byte⟩
  -- the W65C02S variant
  | rmb0 zp | rmb1 zp | rmb2 zp | rmb3 zp | rmb4 zp | rmb5 zp | rmb6 zp | rmb7 zp | smb0 zp | smb1 zp | smb2 zp
  | smb3 zp | smb4 zp | smb5 zp | smb6 zp | smb7 zp =>
    obtain rfl := Instr.variant_of_wellFormed h rfl
    exact ⟨_, _, rfl, .byte⟩
  | bbr0 zp rel | bbr1 zp rel | bbr2 zp rel | bbr3 zp rel | bbr4 zp rel | bbr5 zp rel | bbr6 zp rel
  | bbr7 zp rel | bbs0 zp rel | bbs1 zp rel | bbs2 zp rel | bbs3 zp rel | bbs4 zp rel | bbs5 zp rel
  | bbs6 zp rel | bbs7 zp rel =>
    obtain rfl := Instr.variant_of_wellFormed h rfl
    exact ⟨_, _, rfl, .zprel⟩
  -- forms that IND selects
  | aslA | incA | swp | rolA | rot | decA | nxt | lsrA | phi | ini | pli | ent | bsw | rev | nxtItc | entItc
  | phw | inw | plw | aslAV | rolAV | incAC | decAC =>
    obtain rfl := Instr.ind_of_wellFormed h rfl
    exact ⟨_, _, rfl, .imp⟩
  | bra rel =>
    obtain rfl := Instr.ind_of_wellFormed h rfl
    exact ⟨_, _, rfl, .byte⟩
  | jrl rel =>
    obtain rfl := Instr.ind_of_wellFormed h rfl
    exact ⟨_, _, rfl, .word⟩
  -- forms that IND and SIZ select
  | dup | tai | tia | xai | asr | asrW =>
    obtain rfl := Instr.ind_of_wellFormed h rfl
    obtain rfl := Instr.siz_of_wellFormed h rfl
    exact ⟨_, _, rfl, .imp⟩
  | bpl rel | bmi rel | bvc rel | bvs rel | bcc rel | bcs rel | bne rel | beq rel | ble rel | bgt rel | blt rel
  | bge rel | bhs rel | blo rel | bhi rel | bls rel =>
    obtain rfl := Instr.ind_of_wellFormed h rfl
    obtain rfl := Instr.siz_of_wellFormed h rfl
    exact ⟨_, _, rfl, .byte⟩
  | jmi rel | jpl rel | jvs rel | jvc rel | jeq rel | jne rel | jcs rel | jcc rel | jle rel | jgt rel | jlt rel
  | jge rel | jhs rel | jlo rel | jhi rel | jls rel =>
    obtain rfl := Instr.ind_of_wellFormed h rfl
    obtain rfl := Instr.siz_of_wellFormed h rfl
    exact ⟨_, _, rfl, .word⟩
  -- forms that OSX selects
  | txa | tax | dex | phx | inx | plx | tas | tsa | phs | pls | ins | des =>
    obtain rfl := Instr.osx_of_wellFormed h rfl
    exact ⟨_, _, rfl, .imp⟩
  | ldxImm imm | cpxImm imm | ldsImm imm | cpsImm imm =>
    obtain rfl := Instr.osx_of_wellFormed h rfl
    exact ⟨_, _, rfl, Shape.makes_imm rfl (Instr.widthOk_of_wellFormed h)⟩
  | stx m | ldx m | cpx m | lds m | sts m | cps m =>
    obtain rfl := Instr.osx_of_wellFormed h rfl
    cases v <;> exact hasCell_of_modes h rfl rfl rfl

/-- Settles O1: the encoding is an opcode and the operand bytes of which its cell makes the instruction. -/
theorem encodeThenDecode : Obligations.EncodeThenDecode := by
  unfold Obligations.EncodeThenDecode
  intro v f i rest h
  obtain ⟨op, operand, he, hmakes⟩ := hasCell_of_wellFormed h
  exact decode_eq_ok.2 ⟨op, operand, by rw [he, List.cons_append], hmakes⟩

end Sys2Proof
end

section
/-!
SUPPORT. Prefix bytes before an instruction: each changes the flags that the instruction after it is read under.
-/

namespace Sys2Proof

open Machine

/-- The flags after a list of prefix bytes (R193 to R199), or `none` when one of them is no prefix. -/
def PrefixFlags.afterAll (f : PrefixFlags) (bytes : List Byte) : Option PrefixFlags := bytes.foldlM PrefixFlags.after f

/-- Every combination of flags that the exclusions allow is left by its bytes (R199). -/
theorem PrefixFlags.afterAll_bytes {f : PrefixFlags} (h : exclusive f = true) : clear.afterAll f.bytes = some f := by
  obtain ⟨ind, siz, oax, oay, osx⟩ := f
  revert ind siz oax oay osx
  decide

/-- What follows prefix bytes is read under the flags that they leave. -/
theorem decodePrefixed_afterAll (v : Variant) {g : PrefixFlags} (tail : List Byte) {bytes : List Byte} :
    ∀ {f : PrefixFlags}, f.afterAll bytes = some g → decodePrefixed v f (bytes ++ tail) = decodePrefixed v g tail := by
  induction bytes with
  | nil =>
    intro f h
    obtain rfl := Option.some.inj h
    rfl
  | cons op bytes ih =>
    intro f h
    obtain ⟨f', hop, hbytes⟩ : ∃ f', f.after op = some f' ∧ f'.afterAll bytes = some g := Option.bind_eq_some_iff.1 h
    simpa only [List.cons_append, decodePrefixed, hop] using ih hbytes

/-- The opcodes of the prefix instructions (R109), in the order of `prefixes`. -/
def prefixOpcodes : List Byte := [0x9B, 0xAB, 0xBB, 0xEB, 0xFB, 0x8B]

/-- The bytes that set flags are these. -/
theorem PrefixFlags.mem_of_after {f g : PrefixFlags} {op : Byte} (h : f.after op = some g) :
    op ∈ prefixOpcodes := by
  by_contra hop
  simp only [prefixOpcodes, List.mem_cons, List.not_mem_nil, or_false, not_or] at hop
  obtain ⟨hind, hsiz, hisz, hoax, hoay, hosx⟩ := hop
  simp only [after, hind, hsiz, hisz, hoax, hoay, hosx, if_false] at h
  cases h

theorem shape_of_prefix (v : Variant) (f : PrefixFlags) {op : Byte} (hop : op ∈ prefixOpcodes) :
    ∃ i ∈ prefixes, shape v f op = .imp i := by
  simp only [prefixOpcodes, List.mem_cons, List.not_mem_nil, or_false] at hop
  obtain rfl | rfl | rfl | rfl | rfl | rfl := hop
  · exact ⟨.ind, by decide, rfl⟩
  · exact ⟨.siz, by decide, rfl⟩
  · exact ⟨.isz, by decide, rfl⟩
  · exact ⟨.oax, by decide, rfl⟩
  · exact ⟨.oay, by decide, rfl⟩
  · exact ⟨.osx, by decide, rfl⟩

/-- The opcode of an instruction that is no prefix sets no flag. -/
theorem after_eq_none_of_makes {v : Variant} {f : PrefixFlags} {op : Byte} {operand : List Byte} {i : Instr}
    (h : (shape v f op).Makes f operand i) (hi : i ∉ prefixes) : f.after op = none := by
  by_contra hop
  obtain ⟨g, hg⟩ := Option.ne_none_iff_exists'.1 hop
  obtain ⟨j, hj, hshape⟩ := shape_of_prefix v f (PrefixFlags.mem_of_after hg)
  obtain ⟨⟩ := hshape ▸ h
  exact hi hj

/-- An instruction that is no prefix is read under the flags in force. -/
theorem decodePrefixed_encode {v : Variant} {f : PrefixFlags} {i : Instr} (h : i.wellFormed v f = true)
    (hi : i ∉ prefixes) (rest : List Byte) : decodePrefixed v f (encode i ++ rest) = .ok (f, i, rest) := by
  obtain ⟨op, operand, he, hmakes⟩ := hasCell_of_wellFormed h
  have hdecode : decode v f (op :: (operand ++ rest)) = .ok (i, rest) := decode_eq_ok.2 ⟨op, operand, rfl, hmakes⟩
  simp only [he, List.cons_append, decodePrefixed, after_eq_none_of_makes hmakes hi, hdecode]

/-- Settles O3: the prefix bytes leave the flags, and the instruction after them is read under these. -/
theorem prefixesThenInstruction : Obligations.PrefixesThenInstruction := by
  unfold Obligations.PrefixesThenInstruction
  intro v f i rest hf hw hi
  rw [decodePrefixed_afterAll v _ (PrefixFlags.afterAll_bytes hf)]
  exact decodePrefixed_encode hw hi rest

/-- Settles O4: the decoder evaluated on each. -/
theorem specWords : Obligations.SpecWords := by
  unfold Obligations.SpecWords
  exact ⟨rfl, rfl, rfl, rfl, rfl, rfl⟩

end Sys2Proof
end

section
/-!
SUPPORT. Which instructions complete and which are refused: one rule for each shared operation that answers, and
`exec_answers`, the instructions by the operation that answers for them.
-/

namespace Sys2Proof.Machine

/-- The answer is a refusal when `stop` is set, and else a next state. -/
def Answers (stop : Bool) (r : Answer) : Prop :=
  (stop = false → ∃ t, r = .next t) ∧ (stop = true → ∃ q, r = .refused q)

theorem answers_next {u : State} : Answers false (.next u) :=
  ⟨fun _ => ⟨u, rfl⟩, nofun⟩

theorem answers_refused {q : Refusal} : Answers true (.refused q) :=
  ⟨nofun, fun _ => ⟨q, rfl⟩⟩

theorem answers_ite {stop : Bool} {q : Refusal} {r : Answer} (h : Answers false r) :
    Answers stop (if stop then .refused q else r) := by
  cases stop with
  | true => exact answers_refused
  | false => exact h

section Operand

variable {s : State} {m : Mode} {stop : Bool} (h : stop = !modeDefined m)

include h

theorem answers_withMode {body : State → Loc → State} : Answers stop (s.withMode m body) := by
  subst h
  constructor
  case left => exact fun h => ⟨_, State.withMode_next.2 ⟨by simpa using h, rfl⟩⟩
  case right => exact fun h => ⟨_, State.withMode_refused.2 ⟨by simpa using h, rfl⟩⟩

theorem answers_reading {use : State → Word → State} : Answers stop (s.reading m use) :=
  answers_withMode h

theorem answers_writing {v : Word} : Answers stop (s.writing m v) :=
  answers_withMode h

theorem answers_changing {f : Word → Word} {use : State → Word → State} : Answers stop (s.changing m f use) :=
  answers_withMode h

theorem answers_shiftMem {k : ShiftKind} : Answers stop (s.shiftMem k m) :=
  answers_changing h

theorem answers_stepMem {k : Word} : Answers stop (s.stepMem m k) :=
  answers_changing h

end Operand

theorem answers_unassigned {s : State} : Answers false s.unassigned := by
  unfold State.unassigned
  split
  next => exact answers_next
  next => exact answers_next

/-- Every instruction is refused in the forms that `stops` lists, and completes in all others. -/
theorem exec_answers (i : Instr) (s : State) : Answers (stops s i) (exec i s) := by
  unfold exec
  cases i with
  -- an operand in memory: read, written, or changed in place
  | ora m | and m | eor m | bit m | lda m | ldx m | ldy m | lds m | adc m | sbc m | cmp m | cpx m | cpy m | cps m =>
    exact answers_reading rfl
  | add ip | sub ip => exact answers_reading decide_not
  | sta m | stx m | sty m | stz m | sts m => exact answers_writing rfl
  | tsb m | trb m => exact answers_changing rfl
  | asl m | rol m | lsr m | ror m => exact answers_shiftMem rfl
  | inc m | dec m => exact answers_stepMem rfl
  | psh m | pul m => exact answers_withMode rfl
  | xma sp => exact answers_withMode (m := .sp sp) rfl
  -- forms that a prefix stops
  | txs | tsx | tai | tia | xai | bsw | rev => exact answers_ite answers_next
  -- instructions without a described effect
  | cop imm | mov imm => exact answers_refused
  | unassigned82 | unassigned6F | unassigned8F | unassignedAF => exact answers_unassigned
  -- every other instruction completes in every state
  | _ => exact answers_next

/-- Settles O14: an instruction answers with a refusal or a next state as `stops` says. -/
theorem completesUnlessStopped : Obligations.CompletesUnlessStopped := by
  unfold Obligations.CompletesUnlessStopped
  exact exec_answers

end Sys2Proof.Machine
end


section
/-!
SUPPORT. Operands in memory: bytes written at a place (R132), sums of an address and an offset as numbers, and the
address of every mode with IND and without it (40_addressing_modes.md).
-/

namespace Sys2Proof.Machine

/-! ### Sums as numbers -/

theorem zext_toNat (b : Byte) : (zext b).toNat = b.toNat := by
  have := b.isLt
  rw [zext, BitVec.toNat_setWidth]
  omega

theorem sext_toInt (b : Byte) : (sext b).toInt = b.toInt :=
  BitVec.toInt_signExtend_of_le (by decide)

theorem next_second_toNat (a : Word) : (Loc.next a).second.toNat = ((Loc.next a).first.toNat + 1) % 65536 := by
  simp [Loc.next, BitVec.toNat_add]

/-! ### Bytes written -/

section Writes

variable {s : State} (hwf : s.mem.wf = true)

include hwf

theorem State.readByte_writePair (l : Loc) (v a : Word) :
    (s.writePair l v).readByte a =
      if a = l.second then hiByte v else if a = l.first then loByte v else s.readByte a := by
  rw [State.writePair, State.readByte_writeByte (State.wf_writeByte hwf _ _), State.readByte_writeByte hwf]

/-- A write at the operation width leaves the value at its place, where the two bytes of a word do not coincide. -/
theorem State.wroteOp_writeOp {wide : Bool} {l : Loc} (h : wide = true → l.first ≠ l.second) (v : Word) :
    WroteOp s (s.writeOp wide l v) wide l v := by
  cases wide with
  | false =>
    refine ⟨?_, nofun, fun a ha => ?_⟩
    · exact (State.readByte_writeByte hwf ..).trans (if_pos rfl)
    · exact (State.readByte_writeByte hwf ..).trans (if_neg (by simpa [operandBytes] using ha))
  | true =>
    refine ⟨?_, fun _ => ?_, fun a ha => ?_⟩
    · rw [State.writeOp, if_pos rfl, State.readByte_writePair hwf, if_neg (h rfl), if_pos rfl]
    · rw [State.writeOp, if_pos rfl, State.readByte_writePair hwf, if_pos rfl]
    · obtain ⟨hfirst, hsecond⟩ : a ≠ l.first ∧ a ≠ l.second := by simpa [operandBytes] using ha
      rw [State.writeOp, if_pos rfl, State.readByte_writePair hwf, if_neg hsecond, if_neg hfirst]

end Writes

theorem State.onlyChanges_writeOp (s : State) (wide : Bool) (l : Loc) (v : Word) :
    OnlyChanges [] s (s.writeOp wide l v) := by
  unfold State.writeOp
  split
  next => exact (s.onlyChanges_writeByte _ _).both (State.onlyChanges_writeByte _ _ _)
  next => exact s.onlyChanges_writeByte _ _

/-! ### Operands and pointers read -/

theorem State.readOp_word (s : State) (l : Loc) :
    s.readOp true l = joinBytes (s.readByte l.second) (s.readByte l.first) := rfl

theorem State.readOp_byte (s : State) (l : Loc) : s.readOp false l = joinBytes 0x00 (s.readByte l.first) :=
  (joinBytes_zero _).symm

theorem State.pointerAt_eq (s : State) (a : Word) :
    s.pointerAt a = joinBytes (s.readByte (a + 1)) (s.readByte a) := rfl

theorem State.zpPointer_eq (s : State) (b : Byte) :
    s.zpPointer b = joinBytes (s.readByte (joinBytes 0x00 (b + 1))) (s.readByte (joinBytes 0x00 b)) := by
  rw [joinBytes_zero, joinBytes_zero]
  rfl

@[simp] theorem State.throughInd_of_ind {s : State} (h : s.pre.ind = true) (a : Word) :
    s.throughInd a = s.pointerAt a :=
  if_pos h

@[simp] theorem State.throughInd_of_not_ind {s : State} (h : s.pre.ind = false) (a : Word) : s.throughInd a = a := by
  rw [State.throughInd, h]
  rfl

theorem State.loc_zp_of_ind {s : State} (h : s.pre.ind = true) (b : Byte) :
    s.loc (.zp b) = .next (s.zpPointer b) :=
  if_pos h

theorem State.loc_zp_of_not_ind {s : State} (h : s.pre.ind = false) (b : Byte) : s.loc (.zp b) = zpLoc b := by
  rw [State.loc, h]
  rfl

/-- Settles O17: the two bytes of a word as numbers, a write at any place, and the two addresses of `zp`. -/
theorem zeroPageOperand : Obligations.ZeroPageOperand := by
  unfold Obligations.ZeroPageOperand
  refine ⟨joinBytes_toNat, fun v => ⟨loByte_toNat v, hiByte_toNat v⟩, fun s l => ?place, State.pointerAt_eq,
    State.zpPointer_eq, fun s b => ⟨fun hind => ?direct, fun hind => ?indirect, fun hsiz => ?narrow⟩⟩
  case place =>
    exact ⟨rfl, s.readOp_word l, s.readOp_byte l, fun hwf v =>
      ⟨State.wroteOp_writeOp hwf (wide := false) nofun v, s.onlyChanges_writeOp false l v, s.onlyChanges_writeOp true l v,
        fun hne => State.wroteOp_writeOp hwf (fun _ => hne) v⟩⟩
  case direct =>
    rw [State.loc_zp_of_not_ind hind]
    exact ⟨zext_toNat b, (zext_toNat (b + 1)).trans (BitVec.toNat_add b 1)⟩
  case indirect =>
    rw [State.loc_zp_of_ind hind]
    exact ⟨s.zpPointer_eq b, next_second_toNat _⟩
  case narrow =>
    have hwide : s.wide = false := hsiz
    rw [hwide]
    refine ⟨s.readOp_byte _, fun hwf v => ?_⟩
    obtain ⟨hfirst, -, hrest⟩ := State.wroteOp_writeOp hwf (l := s.loc (.zp b)) (wide := false) nofun v
    exact ⟨hfirst, hrest⟩

/-! ### Indexed addresses in page 0 -/

/-- An index above page 1 adds in 16 bits (R142). -/
theorem State.zpIndexed_plain {x : Word} (h : 512 ≤ x.toNat) (s : State) (b : Byte) :
    s.zpIndexed x b = .next (x + zext b) :=
  if_neg (by omega)

/-- An index in pages 0 and 1 adds within one page (R140, R145, log 17). -/
theorem State.zpIndexed_paged {x : Word} (h : x.toNat < 512) (s : State) (b : Byte) :
    s.zpIndexed x b =
      let page := if s.cfg.page1Index = .dropPage then 0x00 else hiByte x
      { first := joinBytes page (loByte x + b), second := joinBytes page (loByte x + b + 1) } := by
  rw [State.zpIndexed, if_pos h]
  cases s.cfg.page1Index <;> rfl

theorem State.loc_zpX_of_not_ind {s : State} (h : s.pre.ind = false) (b : Byte) :
    s.loc (.zpX b) = s.zpIndexed s.xIndex b := by
  rw [State.loc, h]
  rfl

theorem State.loc_zpY_of_not_ind {s : State} (h : s.pre.ind = false) (b : Byte) :
    s.loc (.zpY b) = s.zpIndexed s.yIndex b := by
  rw [State.loc, h]
  rfl

/-- Settles O18: both modes are `zpIndexed` of their index, above page 1 and below, in both readings of C16. -/
theorem indexedZeroPage : Obligations.IndexedZeroPage := by
  unfold Obligations.IndexedZeroPage
  intro s b hind l x hlx
  have hl : l = s.zpIndexed x b := by
    obtain ⟨rfl, rfl⟩ | ⟨rfl, rfl⟩ := hlx
    · exact State.loc_zpX_of_not_ind hind b
    · exact State.loc_zpY_of_not_ind hind b
  subst hl
  refine ⟨fun hx => ?plain, fun hx hcfg => ?dropped, fun hx hcfg => ?kept⟩
  case plain => simp [State.zpIndexed_plain hx, Loc.next, BitVec.toNat_add, zext_toNat]
  case dropped => simp [State.zpIndexed_paged hx, hcfg, joinBytes_toNat, loByte_toNat, BitVec.toNat_add]
  case kept => simp [State.zpIndexed_paged hx, hcfg, joinBytes_toNat, loByte_toNat, hiByte_toNat, BitVec.toNat_add]

/-! ### Addresses from the stack pointer -/

/-- The place of `sp,S` without IND, from its address as a number, in both readings of U8 (R160, log 18). -/
theorem State.spLoc_eq_next {s : State} {b : Byte} {pa : Word}
    (h : pa.toNat =
      if s.cfg.spSum = .pageLocked ∧ s.stackPtr ≠ .aux ∧ (s.sp s.stackPtr).toNat < 0x0200
        then (s.sp s.stackPtr).toNat / 256 * 256 + ((s.sp s.stackPtr).toNat + 1 + b.toNat) % 256
        else ((s.sp s.stackPtr).toNat + 1 + b.toNat) % 65536) :
    s.spLoc b = .next pa := by
  simp only [← StackPtr.locked_iff] at h
  have hplain : (s.sp s.stackPtr + 1 + zext b).toNat = ((s.sp s.stackPtr).toNat + 1 + b.toNat) % 65536 := by
    simp [BitVec.toNat_add, zext_toNat]
  unfold State.spLoc
  cases hsum : s.cfg.spSum with
  | plain =>
    rw [if_neg (by simp [hsum]), ← hplain] at h
    exact congrArg Loc.next (BitVec.eq_of_toNat_eq h).symm
  | pageLocked =>
    refine congrArg Loc.next (BitVec.eq_of_toNat_eq ?_)
    rw [h]
    cases hlocked : s.stackPtr.locked (s.sp s.stackPtr) with
    | true => simp [hsum, joinBytes_toNat, hiByte_toNat, loByte_toNat, BitVec.toNat_add]
    | false => simpa [hsum, hlocked] using hplain

/-! ### All modes -/

/-- Under IND every mode reads a pointer, and its operand's second byte is at the next address (R131). -/
theorem State.loc_of_ind {s : State} (h : s.pre.ind = true) (m : Mode) : s.loc m = .next (s.loc m).first := by
  cases m with
  | zp b | zpX b | zpY b | zpXInd b | sp b =>
    simp only [State.loc, h, if_true]
    rfl
  | zpInd b | zpIndY b | abs w | absX w | absY w | spIndY b | bp b | ip b => rfl

/-- Settles O19: under IND, each mode's equation. -/
theorem indirectionBeforeIndexing : Obligations.IndirectionBeforeIndexing := by
  unfold Obligations.IndirectionBeforeIndexing
  intro s b w hind
  have hsp : s.loc (.sp b) = .next (s.readPair (s.spLoc b)) := if_pos hind
  have hthrough := State.throughInd_of_ind hind
  refine ⟨?zp, ?zpX, ?zpY, ?zpInd, ?zpXInd, ?zpIndY, ?abs, ?absX, ?absY, ?sp, ?spIndY, ?bp, ?ip, ?second, ?pointer⟩
  case zp | zpX | zpY | zpXInd | sp =>
    simp only [State.loc, hind, if_true]
    rfl
  case zpInd | abs | bp | ip => exact hthrough _
  case zpIndY | absX | absY | spIndY => exact congrArg (· + _) (hthrough _)
  case second =>
    intro m
    rw [State.loc_of_ind hind m]
    rfl
  case pointer =>
    intro pa v hpa
    have hloc := State.spLoc_eq_next hpa
    rw [hsp, hloc]
    exact ⟨rfl, rfl⟩

/-- Settles O20: without IND, each mode's equation. -/
theorem addressesWithoutInd : Obligations.AddressesWithoutInd := by
  unfold Obligations.AddressesWithoutInd
  intro s b w hind
  have hthrough := State.throughInd_of_not_ind hind
  refine ⟨?zpInd, ?zpXInd, ?zpIndY, ?abs, ?absX, ?absY, ⟨?bp, sext_toInt b⟩, ?ip, ?pointer⟩
  case zpInd =>
    rw [← State.zpPointer_eq]
    exact congrArg Loc.next (hthrough _)
  case zpXInd =>
    rw [State.loc_zpX_of_not_ind hind, State.loc, hind]
    rfl
  case zpIndY =>
    rw [← State.zpPointer_eq]
    exact congrArg (fun a => Loc.next (a + s.yIndex)) (hthrough _)
  case abs | bp | ip => exact congrArg Loc.next (hthrough _)
  case absX => exact congrArg (fun a => Loc.next (a + s.xIndex)) (hthrough _)
  case absY => exact congrArg (fun a => Loc.next (a + s.yIndex)) (hthrough _)
  case pointer =>
    intro pa v hpa
    have hloc := State.spLoc_eq_next hpa
    simp only [State.loc, hthrough, hind, hloc]
    exact ⟨rfl, rfl, rfl⟩

end Sys2Proof.Machine
end

section
/-!
SUPPORT. Branches and jumps (49_program_control.md): they go to an address, and write nothing but the pc and the flags of
the prefixes, which are cleared.
-/

namespace Sys2Proof.Machine

/-! ### The end of a jump -/

theorem State.onlyChanges_jump (s : State) (a : Word) : OnlyChanges [.pc, .pre] s (s.jump a) := by
  intro f hf
  cases f with
  | pc | pre => simp at hf
  | _ => rfl

theorem State.sameMemory_jump (s : State) (a : Word) : SameMemory s (s.jump a) :=
  sameMemory_of_mem_eq (s.jump_mem a)

/-- An instruction that does nothing but go to an address. -/
theorem exec_of_jump {i : Instr} {s : State} {a : Word} (h : exec i s = .next (s.jump a)) :
    ∃ t, exec i s = .next t ∧ t.pc = a ∧ t.pre = .clear ∧ OnlyChanges [.pc, .pre] s t ∧ SameMemory s t :=
  ⟨s.jump a, h, rfl, rfl, s.onlyChanges_jump a, s.sameMemory_jump a⟩

/-! ### Jumps -/

/-- Settles O41: the address that each jump goes to. -/
theorem jumps : Obligations.Jumps := by
  unfold Obligations.Jumps
  exact fun s w => ⟨exec_of_jump (a := s.throughInd w) rfl, exec_of_jump (a := s.throughInd (s.pointerAt w)) rfl,
    exec_of_jump (a := if s.pre.ind then s.pointerAt (s.pointerAt w) + s.xIndex else s.pointerAt (w + s.xIndex)) rfl⟩

/-! ### Branches -/

/-- The address after the instruction, and with a displacement from it, as numbers (R480). -/
theorem State.branchTarget_toNat (s : State) (n : Nat) (taken : Bool) (disp : Word) :
    ((if taken then s.pcNext n + disp else s.pcNext n).toNat : Int) =
      (s.pc.toNat + n + (if taken then disp.toInt else 0)) % 65536 := by
  have hnext : (s.pcNext n).toNat = (s.pc.toNat + n) % 65536 := by
    simp [State.pcNext, BitVec.toNat_add]
  have hdisp := BitVec.toInt_eq_toNat_cond disp
  cases taken with
  | false =>
    simp only [Bool.false_eq_true, if_false]
    omega
  | true =>
    simp only [if_true, BitVec.toNat_add]
    split at hdisp <;> omega

/-- A branch goes to the address after it, or when it is taken to the displacement from there. -/
theorem exec_of_branch {i : Instr} {s : State} {n : Nat} {taken : Bool} {disp : Word}
    (h : exec i s = .next (s.jump (if taken then s.pcNext n + disp else s.pcNext n))) :
    ∃ t, exec i s = .next t ∧ (t.pc.toNat : Int) = (s.pc.toNat + n + (if taken then disp.toInt else 0)) % 65536 ∧
      t.pre = .clear ∧ OnlyChanges [.pc, .pre] s t ∧ SameMemory s t := by
  obtain ⟨t, hexec, hpc, hrest⟩ := exec_of_jump h
  exact ⟨t, hexec, hpc ▸ s.branchTarget_toNat n taken disp, hrest⟩

theorem Cond.holds_ge (p : Psw) : Cond.ge.holds p = (p.n == p.v) :=
  Bool.not_not (p.n == p.v)

theorem Cond.holds_gt (p : Psw) : Cond.gt.holds p = (!p.z && (p.n == p.v)) :=
  congrArg (!p.z && ·) (Cond.holds_ge p)

/-- The branches with an 8-bit displacement are those of R481 to R491 and R490, each with its condition. -/
theorem exec_of_mem_shortBranches (s : State) (rel : Byte) :
    ∀ e ∈ shortBranches s.p rel, ∃ k : Cond, k.holds s.p = e.2 ∧ exec e.1 s = s.shortBranch k rel := by
  simp only [shortBranches, List.forall_mem_cons]
  exact ⟨⟨.pl, rfl, rfl⟩, ⟨.mi, rfl, rfl⟩, ⟨.vc, rfl, rfl⟩, ⟨.vs, rfl, rfl⟩, ⟨.always, rfl, rfl⟩, ⟨.cc, rfl, rfl⟩,
    ⟨.cs, rfl, rfl⟩, ⟨.ne, rfl, rfl⟩, ⟨.eq, rfl, rfl⟩, ⟨.le, rfl, rfl⟩, ⟨.gt, Cond.holds_gt s.p, rfl⟩, ⟨.lt, rfl, rfl⟩,
    ⟨.ge, Cond.holds_ge s.p, rfl⟩, ⟨.hs, rfl, rfl⟩, ⟨.lo, rfl, rfl⟩, ⟨.hi, rfl, rfl⟩, ⟨.ls, rfl, rfl⟩, nofun⟩

/-- The branches with a 16-bit displacement have the same conditions (R488, R490). -/
theorem exec_of_mem_longBranches (s : State) (rel : Word) :
    ∀ e ∈ longBranches s.p rel, ∃ k : Cond, k.holds s.p = e.2 ∧ exec e.1 s = s.longBranch k rel := by
  simp only [longBranches, List.forall_mem_cons]
  exact ⟨⟨.pl, rfl, rfl⟩, ⟨.mi, rfl, rfl⟩, ⟨.vc, rfl, rfl⟩, ⟨.vs, rfl, rfl⟩, ⟨.always, rfl, rfl⟩, ⟨.cc, rfl, rfl⟩,
    ⟨.cs, rfl, rfl⟩, ⟨.ne, rfl, rfl⟩, ⟨.eq, rfl, rfl⟩, ⟨.le, rfl, rfl⟩, ⟨.gt, Cond.holds_gt s.p, rfl⟩, ⟨.lt, rfl, rfl⟩,
    ⟨.ge, Cond.holds_ge s.p, rfl⟩, ⟨.hs, rfl, rfl⟩, ⟨.lo, rfl, rfl⟩, ⟨.hi, rfl, rfl⟩, ⟨.ls, rfl, rfl⟩, nofun⟩

/-- Settles O39: every branch is `State.branch` with its condition, at both widths of the displacement. -/
theorem branches : Obligations.Branches := by
  unfold Obligations.Branches
  rintro s i taken size disp (⟨rel, hmem, rfl, rfl⟩ | ⟨rel, hmem, rfl, rfl⟩)
  case inl =>
    obtain ⟨k, rfl, hexec⟩ := exec_of_mem_shortBranches s rel _ hmem
    rw [← sext_toInt]
    exact exec_of_branch hexec
  case inr =>
    obtain ⟨k, rfl, hexec⟩ := exec_of_mem_longBranches s rel _ hmem
    exact exec_of_branch hexec

/-! ### Branches on a bit -/

theorem State.bitAddress_eq (s : State) (zp : Byte) :
    s.bitAddress zp = if s.pre.ind then s.zpPointer zp else joinBytes 0x00 zp := by
  cases hind : s.pre.ind with
  | true => exact congrArg Loc.first (State.loc_zp_of_ind hind zp)
  | false => exact (congrArg Loc.first (State.loc_zp_of_not_ind hind zp)).trans (joinBytes_zero zp).symm

theorem exec_of_mem_bitBranches (s : State) (zp rel : Byte) :
    ∀ e ∈ bitBranches zp rel, exec e.1 s = s.bitBranch zp rel e.2.1 e.2.2 := by
  simp only [bitBranches, List.forall_mem_cons]
  exact ⟨rfl, rfl, rfl, rfl, rfl, rfl, rfl, rfl, rfl, rfl, rfl, rfl, rfl, rfl, rfl, rfl, nofun⟩

end Sys2Proof.Machine

namespace Sys2Proof

open Machine

/-- Settles O40: the branch is taken by the bit of the byte at the address of `zp`. -/
theorem bitBranches : Obligations.BitBranches := by
  unfold Obligations.BitBranches
  intro s zp rel i n want hmem
  have hbranch := exec_of_branch (exec_of_mem_bitBranches s zp rel _ hmem)
  rw [sext_toInt, s.bitAddress_eq] at hbranch
  simpa only [beq_iff_eq, Nat.cast_ofNat] using hbranch

end Sys2Proof
end

section
/-!
SUPPORT. The instructions of one byte with one effect: the prefix instructions, with the flags that each leaves, and the
flag instructions.
-/

namespace Sys2Proof.Machine

/-- The prefix instructions with the flags that each leaves where `f` is in force (R193 to R198). -/
def prefixSets (f : PrefixFlags) : List (Instr × PrefixFlags) :=
  [(.ind, { f with ind := true }), (.siz, { f with siz := true }), (.isz, { f with ind := true, siz := true }),
   (.oax, { f with oax := true, oay := false, osx := false }), (.oay, { f with oay := true, oax := false }),
   (.osx, { f with osx := true, oax := false })]

theorem exec_of_mem_prefixSets (s : State) : ∀ e ∈ prefixSets s.pre, exec e.1 s = s.prefixed e.2 := by
  simp only [prefixSets, List.forall_mem_cons]
  exact ⟨rfl, rfl, rfl, rfl, rfl, rfl, List.forall_mem_nil _⟩

theorem prefixes_eq_map_prefixSets (f : PrefixFlags) : prefixes = (prefixSets f).map Prod.fst := rfl

/-- What a prefix instruction does: the flags are those that it leaves, and the pc passes its byte (R190). -/
theorem exec_next_of_prefix {i : Instr} {s t : State} (hi : i ∈ prefixes) (h : exec i s = .next t) :
    ∃ g, (i, g) ∈ prefixSets s.pre ∧ t = { s with pre := g, pc := s.pc + 1 } := by
  rw [prefixes_eq_map_prefixSets s.pre, List.mem_map] at hi
  obtain ⟨⟨i, g⟩, hmem, rfl⟩ := hi
  exact ⟨g, hmem, State.prefixed_next.1 ((exec_of_mem_prefixSets s _ hmem).symm.trans h)⟩

/-- `oax` clears the other two overrides, and `oay` and `osx` clear OAX (R199). -/
theorem exclusive_of_mem_prefixSets {f : PrefixFlags} (hf : exclusive f = true) :
    ∀ e ∈ prefixSets f, exclusive e.2 = true := by
  simp only [prefixSets, List.forall_mem_cons]
  exact ⟨hf, hf, hf, rfl, rfl, rfl, List.forall_mem_nil _⟩

theorem exec_of_mem_flagChanges (s : State) : ∀ e ∈ flagChanges s.p, exec e.1 s = (s.setP e.2).done := by
  simp only [flagChanges, List.forall_mem_cons]
  exact ⟨rfl, rfl, rfl, rfl, rfl, rfl, rfl, List.forall_mem_nil _⟩

/-- Settles O29: each answers with its effect and, but for the prefixes, retires one byte. -/
theorem oneEffectInstructions : Obligations.OneEffectInstructions := by
  unfold Obligations.OneEffectInstructions
  intro s
  refine ⟨rfl, rfl, rfl, rfl, rfl, rfl, fun i p hmem => ?_, rfl, rfl, rfl⟩
  exact exec_of_mem_flagChanges s _ hmem

end Sys2Proof.Machine
end

section
/-!
SUPPORT. How an instruction that is no prefix completes: the prefix flags are clear, and memory that was in canonical
form still is.
-/

namespace Sys2Proof.Machine

/-! ### Operations on registers and flags leave memory -/

section Memory

variable (s : State)

@[simp] theorem State.freeV_mem : s.freeV.mem = s.mem := rfl
@[simp] theorem State.compare_mem (r : Reg) (v : Word) : (s.compare r v).mem = s.mem := rfl
@[simp] theorem State.testBits_mem (v : Word) : (s.testBits v).mem = s.mem := rfl
@[simp] theorem State.copyTopBits_mem (v : Word) : (s.copyTopBits v).mem = s.mem := rfl

@[simp] theorem State.mapStack_mem (f : RegStack → RegStack) : (s.mapStack f).mem = s.mem := by
  unfold State.mapStack
  split
  next => rfl
  next => split <;> rfl

@[simp] theorem State.shiftAcc_mem (k : ShiftKind) : (s.shiftAcc k).mem = s.mem := by
  simp [State.shiftAcc]

@[simp] theorem State.takeSum_mem (r : Sum) : (s.takeSum r).mem = s.mem := by
  simp [State.takeSum]

@[simp] theorem State.takeUnruled_mem : s.takeUnruled.mem = s.mem := by
  simp [State.takeUnruled]

@[simp] theorem State.decimalWith_mem (f : Byte → Byte → Bool → DecSum) (v : Word) :
    (s.decimalWith f v).mem = s.mem := by
  simp only [State.decimalWith]
  split
  next => simp [State.takeDecimal]
  next => simp [State.takeInvalid]

@[simp] theorem State.addCarry_mem (v : Word) : (s.addCarry v).mem = s.mem := by
  unfold State.addCarry
  split <;> simp

@[simp] theorem State.subCarry_mem (v : Word) : (s.subCarry v).mem = s.mem := by
  unfold State.subCarry
  split <;> simp

@[simp] theorem State.addPlain_mem (r : Sum) : (s.addPlain r).mem = s.mem := by
  unfold State.addPlain
  split <;> simp

@[simp] theorem State.stepReg_mem (r : Reg) (k : Word) : (s.stepReg r k).mem = s.mem :=
  s.load_mem ..

@[simp] theorem State.logic_mem (op : LogicOp) (v : Word) : (s.logic op v).mem = s.mem :=
  s.load_mem ..

@[simp] theorem State.transfer_mem (dst src : Reg) : (s.transfer dst src).mem = s.mem :=
  s.load_mem ..

end Memory

theorem State.wf_pushReg {s : State} (h : s.mem.wf = true) (r : Reg) : (s.pushReg r).mem.wf = true := by
  unfold State.pushReg
  split
  next => exact State.wf_push16 h _ _
  next => exact State.wf_push8 h _ _

theorem State.returnFrom_pre (s : State) (k : StackPtr) : (s.returnFrom k).pre = .clear := rfl

/-! ### Shapes of use -/

/-- If the answer is a next state, its prefix flags are clear (R191), and its memory is in canonical form where that of
`s` is. -/
abbrev Completes (s : State) : Answer → Prop :=
  NextHas fun t => t.pre = .clear ∧ (s.mem.wf = true → t.mem.wf = true)

section Shapes

variable {s u : State} {m : Mode}

theorem completes_withMode {body : State → Loc → State}
    (h : ∀ t l, t.mem.wf = true → (body t l).mem.wf = true) : Completes s (s.withMode m body) :=
  nextHas_withMode.2 fun _ => ⟨rfl, fun hwf => h _ _ (by simpa using hwf)⟩

theorem completes_reading {use : State → Word → State} (h : ∀ t v, (use t v).mem = t.mem) :
    Completes s (s.reading m use) :=
  completes_withMode fun t _ hwf => by simpa [h] using hwf

theorem completes_writing {v : Word} : Completes s (s.writing m v) :=
  completes_withMode fun _ _ hwf => State.wf_writeOp hwf ..

theorem completes_changing {f : Word → Word} {use : State → Word → State} (h : ∀ t v, (use t v).mem = t.mem) :
    Completes s (s.changing m f use) :=
  completes_withMode fun _ _ hwf => State.wf_writeOp (by simpa [h] using hwf) ..

theorem completes_shiftMem {k : ShiftKind} : Completes s (s.shiftMem k m) :=
  completes_changing (by simp)

theorem completes_stepMem {k : Word} : Completes s (s.stepMem m k) :=
  completes_changing (by simp)

theorem completes_immediate {imm : Imm} {use : State → Word → State} (h : ∀ t v, (use t v).mem = t.mem) :
    Completes s (s.immediate imm use) :=
  nextHas_immediate.2 ⟨rfl, by simp [h]⟩

theorem completes_retire {n : Nat} (h : s.mem.wf = true → u.mem.wf = true) : Completes s (.next (u.retire n)) :=
  nextHas_next.2 ⟨rfl, h⟩

theorem completes_jump {a : Word} (h : s.mem.wf = true → u.mem.wf = true) : Completes s (.next (u.jump a)) :=
  nextHas_next.2 ⟨rfl, h⟩

theorem completes_onlyA (h : u.mem = s.mem) : Completes s (s.onlyA u) :=
  nextHas_onlyA.2 fun _ => ⟨rfl, by simp [h]⟩

theorem completes_unassigned : Completes s s.unassigned :=
  nextHas_unassigned.2 ⟨fun _ => ⟨rfl, id⟩, fun _ => ⟨rfl, fun h => State.wf_enter h ..⟩⟩

end Shapes

/-- Every instruction that is no prefix: the instructions by the shape in which they use their operand. -/
theorem exec_completes {i : Instr} (hi : i ∉ prefixes) (s : State) : Completes s (exec i s) := by
  unfold exec
  cases i with
  -- an operand read from memory
  | ora m | and m | eor m | bit m | lda m | ldx m | ldy m | lds m | adc m | sbc m | cmp m | cpx m | cpy m | cps m
  | add m | sub m => exact completes_reading (by simp)
  -- an immediate operand
  | oraImm imm | andImm imm | eorImm imm | bitImm imm | ldaImm imm | ldxImm imm | ldyImm imm | ldsImm imm
  | adcImm imm | sbcImm imm | cmpImm imm | cpxImm imm | cpyImm imm | cpsImm imm =>
    exact completes_immediate (by simp)
  -- an operand written, or changed in place
  | sta m | stx m | sty m | stz m | sts m => exact completes_writing
  | tsb m | trb m => exact completes_changing (by simp)
  | asl m | rol m | lsr m | ror m => exact completes_shiftMem
  | inc m | dec m => exact completes_stepMem
  | rmb0 zp | rmb1 zp | rmb2 zp | rmb3 zp | rmb4 zp | rmb5 zp | rmb6 zp | rmb7 zp
  | smb0 zp | smb1 zp | smb2 zp | smb3 zp | smb4 zp | smb5 zp | smb6 zp | smb7 zp =>
    exact completes_retire fun h => State.wf_writeByte h ..
  | psh m => exact completes_withMode fun _ _ h => State.wf_push16 h ..
  | pul m => exact completes_withMode fun _ _ h => State.wf_writePair (State.wf_pulled16 h _) ..
  | xma m => exact completes_withMode fun t l h => by simpa using State.wf_writeOp h t.wide l _
  -- one byte: accumulator, registers, flags, pulls, run state
  | aslA | rolA | lsrA | rorA | asr | asrW | aslAV | rolAV
  | incA | decA | inx | dex | iny | dey | ins | des | incAC | decAC
  | tax | txa | tay | tya | tas | tsa | dup | swp | rot
  | clc | sec | cli | sei | clv | cld | sed | nop | plp => exact completes_retire (by simp)
  | pla | plx | ply | pls => exact completes_retire (by simp [State.pullReg_mem])
  | pli | plw => exact completes_retire fun h => State.wf_pulled16 h _
  | ini | inw | wai | stp => exact completes_retire id
  -- the forms that some prefix stops
  | txs | tsx => exact nextHas_ite (fun _ => nextHas_refused) fun _ => completes_retire (by simp)
  | tai | tia | xai | bsw | rev => exact completes_onlyA rfl
  -- pushes and the stack frame
  | pha | phx | phy | phs => exact completes_retire fun h => State.wf_pushReg h _
  | php => exact completes_retire fun h => State.wf_push8 h ..
  | phi | phw | pshImm imm | phr imm => exact completes_retire fun h => State.wf_push16 h ..
  | adj imm => exact completes_retire (by simp)
  -- control
  | bpl rel | bmi rel | bvc rel | bvs rel | bra rel | bcc rel | bcs rel | bne rel | beq rel
  | ble rel | bgt rel | blt rel | bge rel | bhs rel | blo rel | bhi rel | bls rel
  | jpl rel | jmi rel | jvc rel | jvs rel | jrl rel | jcc rel | jcs rel | jne rel | jeq rel
  | jle rel | jgt rel | jlt rel | jge rel | jhs rel | jlo rel | jhi rel | jls rel
  | bbr0 zp rel | bbr1 zp rel | bbr2 zp rel | bbr3 zp rel | bbr4 zp rel | bbr5 zp rel | bbr6 zp rel | bbr7 zp rel
  | bbs0 zp rel | bbs1 zp rel | bbs2 zp rel | bbs3 zp rel | bbs4 zp rel | bbs5 zp rel | bbs6 zp rel | bbs7 zp rel
  | jmpAbs abs | jmpInd abs | jmpIndX abs | nxt | nxtItc => exact completes_jump id
  | jsr abs | ent | entItc => exact completes_jump fun h => State.wf_push16 h ..
  | rts => exact completes_jump fun h => State.wf_pulled16 h _
  | rti => exact nextHas_next.2 ⟨s.returnFrom_pre _, fun h => State.wf_returnFrom h _⟩
  | brk imm => exact nextHas_next.2 ⟨s.enter_pre .., fun h => State.wf_enter h ..⟩
  | unassigned82 | unassigned6F | unassigned8F | unassignedAF => exact completes_unassigned
  -- the instructions without a described effect
  | cop imm | mov imm => exact nextHas_refused
  -- the prefixes
  | ind | siz | isz | oax | oay | osx => exact absurd hi (by decide)

/-- Settles O12: an instruction that is no prefix completes with the flags clear, and each prefix adds to the flags in
force, but for those it excludes. -/
theorem prefixFlagsEnd : Obligations.PrefixFlagsEnd := by
  unfold Obligations.PrefixFlagsEnd
  refine fun i s t h => ⟨fun hi => (exec_completes hi s t h).1, fun hi => ?_⟩
  obtain ⟨g, hmem, rfl⟩ := exec_next_of_prefix hi h
  simp only [prefixSets, List.mem_cons, List.not_mem_nil, or_false, Prod.mk.injEq] at hmem
  obtain ⟨rfl, rfl⟩ | ⟨rfl, rfl⟩ | ⟨rfl, rfl⟩ | ⟨rfl, rfl⟩ | ⟨rfl, rfl⟩ | ⟨rfl, rfl⟩ := hmem <;> simp

/-! ### The invariant -/

/-- A state whose prefix flags are clear meets the invariant when its memory is in canonical form. -/
theorem State.inv_of_clear {s : State} (hwf : s.mem.wf = true) (hpre : s.pre = .clear) : s.Inv :=
  ⟨hwf, by rw [hpre]; rfl, fun _ => hpre⟩

/-- The invariant reads memory, the prefix flags and the run state alone. -/
theorem State.Inv.congr {s t : State} (h : s.Inv) (hmem : t.mem = s.mem) (hpre : t.pre = s.pre)
    (hrun : t.run = s.run ∨ t.run = .running) : t.Inv := by
  obtain ⟨hwf, hexclusive, hidle⟩ := h
  refine ⟨by rwa [hmem], by rwa [hpre], fun ht => ?_⟩
  obtain hrun | hrun := hrun
  · rw [hpre, hidle (hrun ▸ ht)]
  · exact absurd hrun ht

theorem State.Inv.sampled {s : State} (h : s.Inv) : s.sampled.Inv :=
  h.congr rfl rfl (.inl rfl)

theorem State.Inv.applySo {s : State} (h : s.Inv) : s.applySo.Inv := by
  unfold State.applySo
  split
  next => exact h.congr rfl rfl (.inl rfl)
  next => exact h

theorem State.takeInterrupt_mem (s : State) (r : IntRequest) :
    (s.takeInterrupt r).mem = (s.enter (s.pc - 1) false (s.vectorOf r)).mem := rfl

theorem State.takeInterrupt_pre (s : State) (r : IntRequest) : (s.takeInterrupt r).pre = .clear := rfl

theorem State.Inv.takeInterrupt {s : State} (h : s.Inv) (r : IntRequest) : (s.takeInterrupt r).Inv :=
  State.inv_of_clear (by rw [s.takeInterrupt_mem]; exact State.wf_enter h.1 _ _ _) (s.takeInterrupt_pre r)

theorem State.Inv.resetSequence {s : State} (h : s.Inv) : s.resetSequence.Inv :=
  State.inv_of_clear (State.wf_resetSequence h.1) rfl

theorem State.Inv.wait {s : State} (h : s.Inv) (inp : Inputs) : (s.wait inp).Inv := by
  unfold State.wait
  split
  next r _ => exact h.applySo.takeInterrupt r
  next =>
    split
    next => exact h.applySo.congr rfl rfl (.inr rfl)
    next => exact h

theorem State.Inv.boundary {s : State} (h : s.Inv) (op : Byte) (inp : Inputs) : (s.boundary op inp).Inv := by
  simp only [State.boundary]
  split
  next => exact h.applySo
  next => exact h.applySo.wait inp
  next =>
    split
    next =>
      split
      next r _ => exact h.applySo.takeInterrupt r
      next => exact h.applySo
    next => exact h.applySo

/-- An instruction that a running core completes keeps the invariant: a prefix keeps the core running and the overrides
exclusive, and any other instruction leaves no flag. -/
theorem State.Inv.of_exec {i : Instr} {s t : State} (hs : s.Inv) (hrun : s.run = .running) (h : exec i s = .next t) :
    t.Inv := by
  obtain ⟨hwf, hexclusive, -⟩ := hs
  by_cases hi : i ∈ prefixes
  case pos =>
    obtain ⟨g, hmem, rfl⟩ := exec_next_of_prefix hi h
    exact ⟨hwf, exclusive_of_mem_prefixSets hexclusive _ hmem, fun hne => absurd hrun hne⟩
  case neg =>
    obtain ⟨hpre, hmem⟩ := exec_completes hi s t h
    exact State.inv_of_clear (hmem hwf) hpre

/-- Settles O6: the invariant over each thing that a step can be. -/
theorem stepKeepsInv : Obligations.StepKeepsInv := by
  unfold Obligations.StepKeepsInv
  intro s t hs h
  have hsampled := hs.sampled
  obtain ⟨-, rfl⟩ | ⟨-, ⟨-, rfl⟩ | ⟨-, rfl⟩ | ⟨hrun, u, hu, rfl⟩⟩ := step_next h
  · exact hsampled.resetSequence
  · exact hsampled
  · exact hsampled.wait _
  · exact (hsampled.of_exec hrun hu).boundary ..

end Sys2Proof.Machine
end

section
/-!
SUPPORT. The register stack instructions: the bytes of the stack moves, what a stack move changes, and the instructions
that exist for the A register stack only.
-/

namespace Sys2Proof

/-- A cell without an operand takes no byte after its opcode. -/
theorem decode_of_shape_imp {v : Variant} {f : PrefixFlags} {op : Byte} {i : Instr} (h : shape v f op = .imp i)
    (rest : List Byte) : decode v f (op :: rest) = .ok (i, rest) :=
  decode_eq_ok.2 ⟨op, [], rfl, h ▸ .imp⟩

theorem Shape.select_imp (b : Bool) (i j : Instr) :
    Shape.select b (.imp i) (.imp j) = .imp (if b then i else j) :=
  (apply_ite Shape.imp b i j).symm

section Cells

variable (v : Variant) (f : PrefixFlags)

theorem shape_0B :
    shape v f 0x0B =
      .imp (if f.ind then (if f.siz then .xai else .tai) else if f.siz then .tia else .dup) := by
  simp only [← Shape.select_imp]
  rfl

theorem shape_1B : shape v f 0x1B = .imp (if f.ind then .bsw else .swp) := by
  rw [← Shape.select_imp]
  rfl

theorem shape_2B : shape v f 0x2B = .imp (if f.ind then .rev else .rot) := by
  rw [← Shape.select_imp]
  rfl

end Cells

end Sys2Proof

namespace Sys2Proof.Machine

/-! ### Stack moves -/

/-- The stack moves, with what each makes of the selected register stack (R222 to R224). -/
def stackMoves : List (Instr × (RegStack → RegStack)) :=
  [(.dup, fun r => ⟨r.tos, r.tos, r.nos⟩), (.swp, fun r => ⟨r.nos, r.tos, r.bos⟩),
   (.rot, fun r => ⟨r.nos, r.bos, r.tos⟩)]

theorem exec_of_mem_stackMoves (s : State) : ∀ e ∈ stackMoves, exec e.1 s = (s.mapStack e.2).done := by
  simp only [stackMoves, List.forall_mem_cons]
  exact ⟨rfl, rfl, rfl, List.forall_mem_nil _⟩

section Frames

variable (s : State) (r : RegStack)

theorem State.onlyChanges_a : OnlyChanges [.aTos, .aNos, .aBos] s { s with a := r } := by
  intro f hf
  cases f with
  | aTos | aNos | aBos => simp at hf
  | _ => rfl

theorem State.onlyChanges_x : OnlyChanges [.xTos, .xNos, .xBos] s { s with x := r } := by
  intro f hf
  cases f with
  | xTos | xNos | xBos => simp at hf
  | _ => rfl

theorem State.onlyChanges_y : OnlyChanges [.yTos, .yNos, .yBos] s { s with y := r } := by
  intro f hf
  cases f with
  | yTos | yNos | yBos => simp at hf
  | _ => rfl

end Frames

@[simp] theorem State.mapStack_pc (s : State) (f : RegStack → RegStack) : (s.mapStack f).pc = s.pc := by
  unfold State.mapStack
  split
  next => rfl
  next => split <;> rfl

/-- The stack that OAX or OAY selects (R221) is changed, and the instruction of one byte completes. -/
theorem State.mapStack_retire (s : State) (f : RegStack → RegStack) :
    let t := (s.mapStack f).retire 1
    if s.pre.oax then t.x = f s.x ∧ OnlyChanges [.xTos, .xNos, .xBos, .pc, .pre] s t
    else if s.pre.oay then t.y = f s.y ∧ OnlyChanges [.yTos, .yNos, .yBos, .pc, .pre] s t
    else t.a = f s.a ∧ OnlyChanges [.aTos, .aNos, .aBos, .pc, .pre] s t := by
  unfold State.mapStack
  split
  next => exact ⟨rfl, (s.onlyChanges_x _).trans (State.onlyChanges_retire _ 1)⟩
  next =>
    split
    next => exact ⟨rfl, (s.onlyChanges_y _).trans (State.onlyChanges_retire _ 1)⟩
    next => exact ⟨rfl, (s.onlyChanges_a _).trans (State.onlyChanges_retire _ 1)⟩

/-- Settles O57: the three cells without an operand, and `State.mapStack` with the move of each instruction. -/
theorem registerStackMoves : Obligations.RegisterStackMoves := by
  unfold Obligations.RegisterStackMoves
  constructor
  case left =>
    intro v f rest
    exact ⟨decode_of_shape_imp (shape_0B v f) rest, decode_of_shape_imp (shape_1B v f) rest,
      decode_of_shape_imp (shape_2B v f) rest⟩
  case right =>
    intro s i f hmem
    have hexec : exec i s = .next ((s.mapStack f).retire 1) := exec_of_mem_stackMoves s (i, f) hmem
    exact ⟨_, hexec, completed_retire (s.mapStack_pc f) 1, sameMemory_of_mem_eq (s.mapStack_mem f),
      s.mapStack_retire f⟩

/-! ### The instructions for the A register stack only -/

theorem State.onlyA_of_override {s : State} (h : s.pre.oax = true ∨ s.pre.oay = true) (t : State) :
    s.onlyA t = .refused .registerStackOverride :=
  if_pos ((Bool.or_eq_true ..).mpr h)

theorem State.onlyA_of_not_override {s : State} (hx : s.pre.oax = false) (hy : s.pre.oay = false) (t : State) :
    s.onlyA t = .next (t.retire 1) :=
  State.onlyA_next.2 ⟨Bool.or_eq_false_iff.2 ⟨hx, hy⟩, rfl⟩

/-- Bit `k` of the reversed word is bit `15 - k` of the word (R230). -/
theorem reverseBits_getLsbD (v : Word) : ∀ k < 16, (reverseBits v).getLsbD k = v.getLsbD (15 - k) := by
  intro k hk
  rw [reverseBits, BitVec.getLsbD_reverse, BitVec.getMsbD]
  simp [hk]

/-- Settles O58: each answers through `State.onlyA` with its effect on A_TOS and IP. -/
theorem accumulatorAndIp : Obligations.AccumulatorAndIp := by
  unfold Obligations.AccumulatorAndIp
  intro s
  constructor
  case left =>
    intro h
    have hrefused := State.onlyA_of_override h
    simp only [List.forall_mem_cons]
    exact ⟨hrefused _, hrefused _, hrefused _, hrefused _, hrefused _, List.forall_mem_nil _⟩
  case right =>
    intro hx hy
    have hnext := State.onlyA_of_not_override hx hy
    exact ⟨hnext _, hnext _, hnext _, hnext _, reverseBits s.a.tos, hnext _, reverseBits_getLsbD s.a.tos⟩

end Sys2Proof.Machine
end

section
/-!
SUPPORT. The FORTH virtual machine (43_forth_vm.md): the NEXT step and ENTER, which is a push and then NEXT, and the
pushes and pulls of IP and W.
-/

namespace Sys2Proof.Machine

variable {s t u : State} {k : StackPtr}

/-! ### IP and W -/

theorem State.onlyChanges_ip (s : State) (v : Word) : OnlyChanges [.ip] s { s with ip := v } := by
  intro f hf
  cases f with
  | ip => simp at hf
  | _ => rfl

theorem State.onlyChanges_w (s : State) (v : Word) : OnlyChanges [.w] s { s with w := v } := by
  intro f hf
  cases f with
  | w => simp at hf
  | _ => rfl

/-- No stack pointer is IP or W, so what changes one of these alone leaves every pointer. -/
theorem OnlyChanges.sp_eq {f : Field} (h : OnlyChanges [f] s t) (hf : f ∈ [Field.ip, .w]) (k : StackPtr) :
    t.sp k = s.sp k := by
  refine StackPtr.field_same.1 (h k.field fun hmem => ?_)
  obtain rfl := List.mem_singleton.1 hmem
  cases k <;> simp [StackPtr.field] at hf

/-! ### NEXT -/

section Next

variable (s : State) (itc : Bool)

@[simp] theorem State.nextWord_mem : (s.nextWord itc).mem = s.mem := rfl

@[simp] theorem State.sp_nextWord (k : StackPtr) : (s.nextWord itc).sp k = s.sp k := by
  cases k <;> rfl

/-- What NEXT leaves in W, IP, the pc and the flags of the prefixes (R243); memory reads the
same after it as before. -/
theorem State.nextWord_values :
    let t := s.nextWord itc
    t.w = t.pointerAt s.ip ∧ t.ip = s.ip + 2 ∧ t.pc = (if itc then t.pointerAt t.w else t.w) ∧ t.pre = .clear :=
  ⟨rfl, rfl, rfl, rfl⟩

theorem State.onlyChanges_nextWord : OnlyChanges [.w, .ip, .pc, .pre] s (s.nextWord itc) :=
  have hw := s.onlyChanges_w (s.pointerAt s.ip)
  have hip := State.onlyChanges_ip { s with w := s.pointerAt s.ip } (s.ip + 2)
  (hw.trans hip).trans (State.onlyChanges_jump _ _)

end Next

theorem exec_of_mem_nexts (s : State) :
    ∀ e ∈ [(Instr.nxt, false), (.nxtItc, true)], exec e.1 s = .next (s.nextWord e.2) := by
  simp only [List.forall_mem_cons]
  exact ⟨rfl, rfl, List.forall_mem_nil _⟩

/-! ### ENTER -/

theorem entOffset_eq (o : EntOffset) : entOffset o = if o = .two then 2 else 0 := by
  cases o <;> rfl

/-- What was pushed stays where the pointer and memory stay. -/
theorem Pushed16.congr {v : Word} (h : Pushed16 s t k v) (hsp : u.sp k = t.sp k) (hmem : u.mem = t.mem) :
    Pushed16 s u k v := by
  obtain ⟨htop, hhi, hlo, hrest⟩ := h
  have hread : SameMemory t u := sameMemory_of_mem_eq hmem
  exact ⟨hsp.trans htop, (hread _).trans hhi, (hread _).trans hlo, fun a ha => (hread a).trans (hrest a ha)⟩

/-- The state in which ENTER begins its NEXT step: IP is pushed, and goes to W plus the offset (R246). -/
def State.entering (s : State) : State :=
  { s.push16 s.vmPtr s.ip with ip := s.w + entOffset s.cfg.entIpOffset }

theorem State.enterWord_eq (s : State) (itc : Bool) : s.enterWord itc = s.entering.nextWord itc := rfl

theorem State.onlyChanges_entering (s : State) : OnlyChanges [s.vmPtr.field, .ip] s s.entering :=
  (s.onlyChanges_push16 s.vmPtr s.ip).trans (State.onlyChanges_ip _ _)

theorem State.pushed16_entering (hwf : s.mem.wf = true) : Pushed16 s s.entering s.vmPtr s.ip :=
  (State.pushed16 hwf s.vmPtr s.ip).congr ((State.onlyChanges_ip _ _).sp_eq (.head _) _) rfl

theorem State.pushed16_enterWord (hwf : s.mem.wf = true) (itc : Bool) :
    Pushed16 s (s.enterWord itc) s.vmPtr s.ip := by
  rw [State.enterWord_eq]
  exact (State.pushed16_entering hwf).congr (s.entering.sp_nextWord itc _) (s.entering.nextWord_mem itc)

theorem State.onlyChanges_enterWord (s : State) (itc : Bool) :
    OnlyChanges [s.vmPtr.field, .w, .ip, .pc, .pre] s (s.enterWord itc) := by
  rw [State.enterWord_eq]
  exact (s.onlyChanges_entering.trans (s.entering.onlyChanges_nextWord itc)).mono (by simp)

theorem exec_of_mem_enters (s : State) :
    ∀ e ∈ [(Instr.ent, false), (.entItc, true)], exec e.1 s = .next (s.enterWord e.2) := by
  simp only [List.forall_mem_cons]
  exact ⟨rfl, rfl, List.forall_mem_nil _⟩

/-- Settles O59: the values that NEXT leaves, from the state itself, and for ENTER from the one after its push. -/
theorem nextAndEnter : Obligations.NextAndEnter := by
  unfold Obligations.NextAndEnter
  intro s
  refine ⟨fun i itc hmem => ?next, fun i itc hmem hwf => ?enter⟩
  case next =>
    obtain ⟨hw, hip, hpc, hpre⟩ := s.nextWord_values itc
    exact ⟨_, exec_of_mem_nexts s (i, itc) hmem, hw, hip, hpc, hpre, s.onlyChanges_nextWord itc,
      sameMemory_of_mem_eq (s.nextWord_mem itc)⟩
  case enter =>
    rw [← entOffset_eq]
    obtain ⟨hw, hip, hpc, hpre⟩ := s.entering.nextWord_values itc
    exact ⟨_, exec_of_mem_enters s (i, itc) hmem, State.pushed16_enterWord hwf itc, hw, hip, hpc, hpre,
      s.onlyChanges_enterWord itc⟩

/-! ### Pushes and pulls of IP and W -/

theorem exec_of_mem_vmPushes (s : State) :
    ∀ e ∈ [(Instr.phi, s.ip), (.phw, s.w)], exec e.1 s = (s.push16 s.vmPtr e.2).done := by
  simp only [List.forall_mem_cons]
  exact ⟨rfl, rfl, List.forall_mem_nil _⟩

/-- IP or W takes a value. -/
def State.setVmReg (s : State) (f : Field) (v : Word) : State :=
  if f = .ip then { s with ip := v } else { s with w := v }

theorem exec_of_mem_vmPulls (s : State) :
    ∀ e ∈ [(Instr.pli, Field.ip), (.plw, .w)],
      exec e.1 s = ((s.pulled16 s.vmPtr).setVmReg e.2 (s.pull16 s.vmPtr)).done := by
  simp only [List.forall_mem_cons]
  exact ⟨rfl, rfl, List.forall_mem_nil _⟩

section SetVmReg

variable (s : State) (f : Field) (v : Word)

theorem State.setVmReg_value :
    (if f = .ip then (s.setVmReg f v).ip else (s.setVmReg f v).w) = v := by
  unfold State.setVmReg
  split <;> rfl

@[simp] theorem State.setVmReg_mem : (s.setVmReg f v).mem = s.mem := by
  unfold State.setVmReg
  split <;> rfl

@[simp] theorem State.setVmReg_pc : (s.setVmReg f v).pc = s.pc := by
  unfold State.setVmReg
  split <;> rfl

theorem State.onlyChanges_setVmReg (hf : f ∈ [Field.ip, .w]) : OnlyChanges [f] s (s.setVmReg f v) := by
  simp only [List.mem_cons, List.not_mem_nil, or_false] at hf
  obtain rfl | rfl := hf
  · exact s.onlyChanges_ip v
  · exact s.onlyChanges_w v

end SetVmReg

/-- Settles O60: a push is O52's of a word, and a pull steps the pointer and then writes IP or W. -/
theorem pushAndPullIpW : Obligations.PushAndPullIpW := by
  unfold Obligations.PushAndPullIpW
  intro s
  refine ⟨fun hwf i v hmem => ?push, fun i f hmem => ?pull⟩
  case push =>
    exact ⟨_, exec_of_mem_vmPushes s (i, v) hmem, (State.pushed16 hwf s.vmPtr v).retire 1,
      completed_retire (s.push16_pc ..) 1, (s.onlyChanges_push16 _ v).trans (State.onlyChanges_retire _ 1)⟩
  case pull =>
    have hf : f ∈ [Field.ip, .w] := List.mem_map_of_mem (f := Prod.snd) hmem
    have hset := (s.pulled16 s.vmPtr).onlyChanges_setVmReg f (s.pull16 s.vmPtr) hf
    refine ⟨_, exec_of_mem_vmPulls s (i, f) hmem, ?_, ?_, completed_retire (by simp) 1,
      ((s.onlyChanges_pulled16 _).trans hset).trans (State.onlyChanges_retire _ 1), sameMemory_of_mem_eq (by simp)⟩
    · exact (State.setVmReg_value ..).trans (s.pull16_eq s.vmPtr)
    · rw [State.sp_retire, hset.sp_eq hf, State.sp_pulled16]

end Sys2Proof.Machine
end

section
/-!
SUPPORT. The stops by name: `cop` and `mov`, and every instruction under an `ip,I++` byte other than 0, since an
instruction with a memory mode answers through `State.withMode`, whatever it does with the operand.
-/

namespace Sys2Proof.Machine

/-- The answer is `State.withMode` of the mode, with some use of the operand. -/
def UsesMode (s : State) (m : Mode) (r : Answer) : Prop := ∃ body, r = s.withMode m body

section Shapes

variable {s : State} {m : Mode}

theorem usesMode_withMode {body : State → Loc → State} : UsesMode s m (s.withMode m body) := ⟨body, rfl⟩

theorem usesMode_reading {use : State → Word → State} : UsesMode s m (s.reading m use) := usesMode_withMode

theorem usesMode_writing {v : Word} : UsesMode s m (s.writing m v) := usesMode_withMode

theorem usesMode_changing {f : Word → Word} {use : State → Word → State} : UsesMode s m (s.changing m f use) :=
  usesMode_withMode

theorem usesMode_shiftMem {k : ShiftKind} : UsesMode s m (s.shiftMem k m) := usesMode_changing

theorem usesMode_stepMem {k : Word} : UsesMode s m (s.stepMem m k) := usesMode_changing

end Shapes

/-- An instruction that has a memory mode uses it: the instructions by the shape in which they use their operand. -/
theorem exec_usesMode {i : Instr} {m : Mode} {rows : List ModeRow} (h : i.mode? = some (m, rows)) (s : State) :
    UsesMode s m (exec i s) := by
  unfold exec
  cases i with
  | ora _ | and _ | eor _ | bit _ | lda _ | ldx _ | ldy _ | lds _ | adc _ | sbc _ | cmp _ | cpx _ | cpy _ | cps _ =>
    cases h
    exact usesMode_reading
  | sta _ | stx _ | sty _ | stz _ | sts _ =>
    cases h
    exact usesMode_writing
  | tsb _ | trb _ =>
    cases h
    exact usesMode_changing
  | asl _ | rol _ | lsr _ | ror _ =>
    cases h
    exact usesMode_shiftMem
  | inc _ | dec _ =>
    cases h
    exact usesMode_stepMem
  | psh _ | pul _ =>
    cases h
    exact usesMode_withMode
  | _ => cases h

/-- `add` and `sub` have mode `ip,I++` alone (R460, R461). -/
theorem exec_usesMode_ip (b : Byte) (s : State) :
    UsesMode s (.ip b) (exec (.add b) s) ∧ UsesMode s (.ip b) (exec (.sub b) s) := by
  unfold exec
  exact ⟨usesMode_reading, usesMode_reading⟩

/-- An `ip,I++` byte other than 0 is refused, whatever the instruction does with the operand (R170). -/
theorem UsesMode.refused_of_ip_ne {s : State} {b : Byte} {r : Answer} (h : UsesMode s (.ip b) r) (hb : b ≠ 0) :
    r = .refused .ipOperandNonzero := by
  obtain ⟨body, rfl⟩ := h
  exact State.withMode_refused.2 ⟨decide_eq_false hb, rfl⟩

/-- Settles O15: `cop` and `mov` are refused at once, and the instructions of mode `ip,I++` by their mode. -/
theorem namedStops : Obligations.NamedStops := by
  unfold Obligations.NamedStops
  refine fun s b => ⟨rfl, rfl, fun hb => ?_⟩
  obtain ⟨hadd, hsub⟩ := exec_usesMode_ip b s
  exact ⟨fun i rows hi => (exec_usesMode hi s).refused_of_ip_ne hb, hadd.refused_of_ip_ne hb,
    hsub.refused_of_ip_ne hb⟩

end Sys2Proof.Machine
end

section
/-!
SUPPORT. The waiting state (R320, R568): when a request is taken, when a masked one ends the wait, and when nothing
happens.
-/

namespace Sys2Proof.Machine

section Requests

variable {s : State} {inp : Inputs} {r : IntRequest}

/-! ### Requests and the mask -/

theorem State.interrupt?_of_no_request (h : inp.int = none) (s : State) : s.interrupt? inp = none := by
  simp [State.interrupt?, h]

theorem State.interrupt?_of_masked (h : inp.int = some r) (hkind : r.kind = .maskable) (hi : s.p.i = true) :
    s.interrupt? inp = none := by
  simp [State.interrupt?, h, hkind, hi]

/-- A request that I does not mask is asserted (R532). -/
theorem State.interrupt?_of_unmasked (h : inp.int = some r) (hmask : r.kind = .maskable → s.p.i = false) :
    s.interrupt? inp = some r := by
  cases hkind : r.kind with
  | maskable => simp [State.interrupt?, h, hkind, hmask hkind]
  | nonMaskable => simp [State.interrupt?, h, hkind]

theorem anyMaskable_of_no_request (h : inp.int = none) : anyMaskable inp = inp.xirq := by
  simp [anyMaskable, h]

/-- A maskable request of the handler is `xIRQ` too, masked or not (log 12). -/
theorem anyMaskable_of_maskable (h : inp.int = some r) (hkind : r.kind = .maskable) : anyMaskable inp = true := by
  simp [anyMaskable, h, hkind]

/-! ### The wait -/

theorem State.wait_of_unmasked (h : inp.int = some r) (hmask : r.kind = .maskable → s.p.i = false) :
    s.wait inp = s.applySo.takeInterrupt r := by
  rw [State.wait, State.interrupt?_of_unmasked h hmask]

theorem State.wait_of_masked (h : s.interrupt? inp = none) (hany : anyMaskable inp = true) (hi : s.p.i = true) :
    s.wait inp = { s.applySo with run := .running } := by
  simp [State.wait, h, hany, hi]

theorem State.wait_of_nothing (h : s.interrupt? inp = none) (hnone : anyMaskable inp = false ∨ s.p.i = false) :
    s.wait inp = s := by
  have hcond : (anyMaskable inp && s.p.i) = false := Bool.and_eq_false_iff.2 hnone
  simp [State.wait, h, hcond]

end Requests

/-- Settles O49: a stopped step samples alone, and a waiting one is `State.wait` on the state with its sample. -/
theorem waitAndStop : Obligations.WaitAndStop := by
  unfold Obligations.WaitAndStop
  refine fun s => ⟨rfl, rfl, fun hrst => ⟨fun hrun => step_of_stopped hrun hrst, fun hrun => ?_⟩⟩
  rw [step_of_waiting hrun hrst]
  have hno := fun hint => State.interrupt?_of_no_request (inp := s.sample) hint s.sampled
  refine ⟨fun hint hx => ?quiet, fun hint hi => ?unmasked, fun hint hx hi => ?xirq, fun r hint hkind hi => ?masked,
    fun r hint hmask => ?taken⟩
  case quiet =>
    exact congrArg _ (State.wait_of_nothing (hno hint) (.inl ((anyMaskable_of_no_request hint).trans hx)))
  case unmasked => exact congrArg _ (State.wait_of_nothing (hno hint) (.inr hi))
  case xirq => exact congrArg _ (State.wait_of_masked (hno hint) ((anyMaskable_of_no_request hint).trans hx) hi)
  case masked =>
    exact congrArg _
      (State.wait_of_masked (State.interrupt?_of_masked hint hkind hi) (anyMaskable_of_maskable hint hkind) hi)
  case taken => exact congrArg _ (State.wait_of_unmasked hint hmask)

end Sys2Proof.Machine
end

section
/-!
SUPPORT. The two bytes of an operand never coincide, what the state past an operand is, and the 16-bit pushes and pulls
of `psh`, `pul` and `phr` (R290 to R294, R300).
-/

namespace Sys2Proof.Machine

/-! ### The place of an operand -/

theorem Loc.next_first_ne_second (a : Word) : (Loc.next a).first ≠ (Loc.next a).second := by
  simp [Loc.next]

/-- Bytes of one page at offsets one apart, modulo 256, lie at different addresses. -/
theorem joinBytes_ne_joinBytes_succ (page b : Byte) : joinBytes page b ≠ joinBytes page (b + 1) := by
  intro heq
  have hlo := congrArg loByte heq
  simp at hlo

theorem zpLoc_first_ne_second (b : Byte) : (zpLoc b).first ≠ (zpLoc b).second := by
  simp only [zpLoc, ← joinBytes_zero]
  exact joinBytes_ne_joinBytes_succ 0x00 b

theorem State.zpIndexed_first_ne_second (s : State) (x : Word) (b : Byte) :
    (s.zpIndexed x b).first ≠ (s.zpIndexed x b).second := by
  by_cases hx : x.toNat < 512
  case pos =>
    rw [State.zpIndexed_paged hx]
    exact joinBytes_ne_joinBytes_succ _ _
  case neg =>
    rw [State.zpIndexed_plain (by omega)]
    exact Loc.next_first_ne_second _

theorem State.spLoc_first_ne_second (s : State) (b : Byte) : (s.spLoc b).first ≠ (s.spLoc b).second := by
  unfold State.spLoc
  cases s.cfg.spSum <;> exact Loc.next_first_ne_second _

/-- The two bytes of a 16-bit operand lie at different addresses in every mode. -/
theorem State.loc_first_ne_second (s : State) (m : Mode) : (s.loc m).first ≠ (s.loc m).second := by
  cases hind : s.pre.ind with
  | true =>
    rw [State.loc_of_ind hind]
    exact Loc.next_first_ne_second _
  | false =>
    cases m with
    | zp b =>
      rw [State.loc_zp_of_not_ind hind]
      exact zpLoc_first_ne_second b
    | zpX b =>
      rw [State.loc_zpX_of_not_ind hind]
      exact s.zpIndexed_first_ne_second _ b
    | zpY b =>
      rw [State.loc_zpY_of_not_ind hind]
      exact s.zpIndexed_first_ne_second _ b
    | zpXInd b =>
      rw [State.loc, hind]
      exact Loc.next_first_ne_second _
    | sp b =>
      rw [State.loc, hind]
      exact s.spLoc_first_ne_second b
    | zpInd _ | zpIndY _ | abs _ | absX _ | absY _ | spIndY _ | bp _ | ip _ => exact Loc.next_first_ne_second _

/-! ### Past the operand -/

@[simp] theorem State.sp_past (s : State) (m : Mode) (k : StackPtr) : (s.past m).sp k = s.sp k := by
  cases k <;> simp [State.sp]

@[simp] theorem State.stackPtr_past (s : State) (m : Mode) : (s.past m).stackPtr = s.stackPtr := by
  simp [State.stackPtr, State.modePtr]

theorem State.onlyChanges_past (s : State) (m : Mode) : OnlyChanges [.ip] s (s.past m) := by
  cases m with
  | ip b => exact s.onlyChanges_ip _
  | _ => exact fun f _ => by cases f <;> rfl

theorem State.withMode_of_defined {m : Mode} (h : modeDefined m = true) (s : State) (body : State → Loc → State) :
    s.withMode m body = .next ((body (s.past m) (s.loc m)).retire (modeSize m)) :=
  State.withMode_next.2 ⟨h, rfl⟩

section Operand

variable {s t u : State} {k : StackPtr} {v : Word} {wide : Bool} {l : Loc}

/-- What a push leaves is told from the pointer and memory alone, before it as after. -/
theorem Pushed16.of_start (h : Pushed16 u t k v) (hsp : u.sp k = s.sp k) (hmem : u.mem = s.mem) :
    Pushed16 s t k v := by
  have hread : SameMemory s u := sameMemory_of_mem_eq hmem
  obtain ⟨htop, hhi, hlo, hrest⟩ := h
  rw [hsp] at htop hhi hlo hrest
  exact ⟨htop, hhi, hlo, fun a ha => (hrest a ha).trans (hread a)⟩

/-- What a write leaves is told from memory alone, before it and after. -/
theorem WroteOp.congr {s' t' : State} (h : WroteOp s t wide l v) (hs : s'.mem = s.mem) (ht : t'.mem = t.mem) :
    WroteOp s' t' wide l v := by
  simpa only [WroteOp, SameMemoryBut, State.readByte, hs, ht] using h

end Operand

/-! ### Word pushes and pulls -/

/-- PHR_BIAS as what is subtracted from the target (R300). -/
theorem add_phrOffset (a : Word) (b : PhrBias) : a + phrOffset b = a - (if b = .minusOne then 1 else 0) := by
  cases b with
  | minusOne => exact (BitVec.sub_eq_add_neg a 1).symm
  | zero => simp [phrOffset]

/-- An instruction that does nothing but push a word on the stack of the system-stack instructions. -/
theorem exec_of_push16 {i : Instr} {s : State} {v : Word} {n : Nat} (hwf : s.mem.wf = true)
    (h : exec i s = .next ((s.push16 s.stackPtr v).retire n)) :
    ∃ t, exec i s = .next t ∧ Pushed16 s t s.stackPtr v ∧ Completed s t n ∧
      OnlyChanges [s.stackPtr.field, .pc, .pre] s t :=
  ⟨_, h, (State.pushed16 hwf _ v).retire n, completed_retire (s.push16_pc ..) n,
    (s.onlyChanges_push16 _ v).trans (State.onlyChanges_retire _ n)⟩

/-- The state after `psh` on memory, before the instruction ends. -/
def State.pushedOperand (s : State) (m : Mode) : State :=
  (s.past m).push16 (s.past m).stackPtr (s.readPair (s.loc m))

/-- The state after `pul` on memory, before the instruction ends. -/
def State.pulledOperand (s : State) (m : Mode) : State :=
  ((s.past m).pulled16 (s.past m).stackPtr).writeOp true (s.loc m) (s.pull16 s.stackPtr)

section Operands

variable {s : State} {m : Mode}

theorem exec_psh (h : modeDefined m = true) : exec (.psh m) s = .next ((s.pushedOperand m).retire (modeSize m)) :=
  s.withMode_of_defined h fun _ _ => _

theorem exec_pul (h : modeDefined m = true) : exec (.pul m) s = .next ((s.pulledOperand m).retire (modeSize m)) :=
  s.withMode_of_defined h fun _ _ => _

theorem State.pushed16_pushedOperand (hwf : s.mem.wf = true) :
    Pushed16 s (s.pushedOperand m) s.stackPtr (s.readPair (s.loc m)) := by
  rw [State.pushedOperand, State.stackPtr_past]
  exact (State.pushed16 (by simpa using hwf) _ _).of_start (s.sp_past m _) (s.past_mem m)

theorem State.onlyChanges_pushedOperand (s : State) (m : Mode) :
    OnlyChanges [.ip, s.stackPtr.field] s (s.pushedOperand m) := by
  rw [State.pushedOperand, State.stackPtr_past]
  exact (s.onlyChanges_past m).trans (State.onlyChanges_push16 _ _ _)

theorem State.sp_pulledOperand (s : State) (m : Mode) :
    (s.pulledOperand m).sp s.stackPtr = s.stackPtr.up (s.stackPtr.up (s.sp s.stackPtr)) := by
  have hwrite := StackPtr.field_same.1
    (State.onlyChanges_writeOp ((s.past m).pulled16 s.stackPtr) true (s.loc m) (s.pull16 s.stackPtr) s.stackPtr.field
      List.not_mem_nil)
  rw [State.pulledOperand, State.stackPtr_past, hwrite, State.sp_pulled16, State.sp_past]

theorem State.wroteOp_pulledOperand (hwf : s.mem.wf = true) :
    WroteOp s (s.pulledOperand m) true (s.loc m) (pulledWord s s.stackPtr) := by
  rw [State.pulledOperand, State.pull16_eq]
  exact (State.wroteOp_writeOp (by simpa using hwf) (fun _ => s.loc_first_ne_second m) _).congr (by simp) rfl

theorem State.onlyChanges_pulledOperand (s : State) (m : Mode) :
    OnlyChanges [.ip, s.stackPtr.field] s (s.pulledOperand m) := by
  rw [State.pulledOperand, State.stackPtr_past]
  exact ((s.onlyChanges_past m).trans (State.onlyChanges_pulled16 _ _)).trans (State.onlyChanges_writeOp _ _ _ _)

end Operands

/-- Settles O55: a push is O52's of a word, and a pull steps the pointer and writes the word to the operand's place. -/
theorem wordPushesAndPulls : Obligations.WordPushesAndPulls := by
  unfold Obligations.WordPushesAndPulls
  refine fun s hwf => ⟨fun w => ⟨exec_of_push16 hwf rfl, ?phr⟩, fun m hm => ⟨?psh, ?pul⟩⟩
  case phr =>
    rw [← add_phrOffset]
    exact exec_of_push16 hwf rfl
  case psh =>
    exact ⟨_, exec_psh hm, (State.pushed16_pushedOperand hwf).retire _, by simp [State.pushedOperand],
      completed_retire (by simp [State.pushedOperand]) _,
      ((s.onlyChanges_pushedOperand m).trans (State.onlyChanges_retire _ _)).mono (by simp)⟩
  case pul =>
    exact ⟨_, exec_pul hm, (State.sp_retire ..).trans (s.sp_pulledOperand m),
      (State.wroteOp_pulledOperand hwf).congr rfl rfl, by simp [State.pulledOperand],
      completed_retire (by simp [State.pulledOperand]) _,
      ((s.onlyChanges_pulledOperand m).trans (State.onlyChanges_retire _ _)).mono (by simp)⟩

end Sys2Proof.Machine
end

section
/-!
SUPPORT. The stack frame instructions: the pointer that `adj` leaves, as a number (R302), and the exchange of the
accumulator with the stack (R304).
-/

namespace Sys2Proof.Machine

/-! ### The adjusted pointer -/

/-- A plain 16-bit sum with a signed word, as a number. -/
theorem add_toNat_signed (v d : Word) : ((v + d).toNat : Int) = (v.toNat + d.toInt) % 65536 := by
  have hsum := BitVec.toNat_add v d
  have hd := BitVec.toInt_eq_toNat_cond d
  split at hd <;> omega

/-- Where U14 says so, a locked pointer is adjusted within its page (log 19). -/
theorem State.adjusted_paged {s : State} (hcfg : s.cfg.adjSum = .pageLocked)
    (hlocked : s.stackPtr.locked (s.sp s.stackPtr) = true) (b : Byte) :
    (s.adjusted b).toNat =
      (s.sp s.stackPtr).toNat / 256 * 256 + ((s.sp s.stackPtr).toNat + b.toNat) % 256 := by
  simp [State.adjusted, hcfg, hlocked, joinBytes_toNat, hiByte_toNat, loByte_toNat, BitVec.toNat_add]

/-- Every other pointer is adjusted by a plain 16-bit sum. -/
theorem State.adjusted_plain {s : State}
    (h : ¬ (s.cfg.adjSum = .pageLocked ∧ s.stackPtr.locked (s.sp s.stackPtr) = true)) (b : Byte) :
    ((s.adjusted b).toNat : Int) = ((s.sp s.stackPtr).toNat + b.toInt) % 65536 := by
  have hsum : s.adjusted b = s.sp s.stackPtr + sext b := by
    unfold State.adjusted
    cases hcfg : s.cfg.adjSum with
    | plain => rfl
    | pageLocked => exact if_neg fun hlocked => h ⟨hcfg, hlocked⟩
  rw [hsum, add_toNat_signed, sext_toInt]

/-! ### The exchange -/

/-- The state after `xma`, before the instruction ends (R304). -/
def State.exchanged (s : State) (b : Byte) : State :=
  ((s.writeOp s.wide (s.loc (.sp b)) (s.reg s.accReg)).setReg s.accReg
    (s.accReg.stored s.wide (s.readOp s.wide (s.loc (.sp b))))).freeNZ

theorem exec_xma (s : State) (b : Byte) : exec (.xma b) s = .next ((s.exchanged b).retire 2) :=
  s.withMode_of_defined (m := .sp b) rfl fun _ _ => _

theorem State.wroteOp_exchanged {s : State} (hwf : s.mem.wf = true) (b : Byte) :
    WroteOp s (s.exchanged b) s.wide (s.loc (.sp b)) (s.reg s.accReg) :=
  (State.wroteOp_writeOp hwf (fun _ => s.loc_first_ne_second _) _).congr rfl (by simp [State.exchanged])

theorem State.reg_exchanged (s : State) (b : Byte) :
    (s.exchanged b).reg s.accReg = (Result.of s.wide (s.readOp s.wide (s.loc (.sp b)))).word s.accReg :=
  (State.reg_freeNZ _ _).trans (State.reg_setReg _ _ _)

theorem State.onlyChanges_exchanged (s : State) (b : Byte) :
    OnlyChanges [s.accReg.field s, .n, .z, .free] s (s.exchanged b) := by
  have hwrite := s.onlyChanges_writeOp s.wide (s.loc (.sp b)) (s.reg s.accReg)
  have hset := State.onlyChanges_setReg (s.writeOp s.wide (s.loc (.sp b)) (s.reg s.accReg)) s.accReg
    (s.accReg.stored s.wide (s.readOp s.wide (s.loc (.sp b))))
  rw [Reg.field_congr (congrArg Psw.m (s.writeOp_p ..))] at hset
  exact (hwrite.trans hset).trans (State.onlyChanges_freeNZ _)

/-- Settles O56: `adj` writes the pointer alone, and `xma` writes the operand and then the accumulator. -/
theorem adjustAndExchange : Obligations.AdjustAndExchange := by
  unfold Obligations.AdjustAndExchange
  refine fun s b => ⟨?adj, fun hwf => ?xma⟩
  case adj =>
    refine ⟨(s.setSp s.stackPtr (s.adjusted b)).retire 2, rfl, ?_, completed_retire (s.setSp_pc ..) 2,
      (s.onlyChanges_setSp _ _).trans (State.onlyChanges_retire _ 2), sameMemory_of_mem_eq (s.setSp_mem ..)⟩
    rw [State.sp_retire, State.sp_setSp]
    split
    next h =>
      obtain ⟨hcfg, hlocked⟩ := h
      exact State.adjusted_paged hcfg hlocked b
    next h => exact State.adjusted_plain h b
  case xma =>
    exact ⟨_, exec_xma s b, (State.wroteOp_exchanged hwf b).congr rfl rfl,
      (State.reg_retire ..).trans (s.reg_exchanged b), by simp [State.exchanged, State.freeBit],
      by simp [State.exchanged, State.freeBit], by simp [State.exchanged],
      completed_retire (by simp [State.exchanged]) 2, (s.onlyChanges_exchanged b).trans (State.onlyChanges_retire _ 2)⟩

end Sys2Proof.Machine
end

section
/-!
SUPPORT. Loads, stores and register transfers (45_load_store_transfer.md): each load and transfer is `State.load`, after the
operand where there is one, and each store is `State.writing`.
-/

namespace Sys2Proof.Machine

/-! ### Roles past an operand -/

@[simp] theorem State.accReg_past (s : State) (m : Mode) : (s.past m).accReg = s.accReg := by
  simp [State.accReg]

@[simp] theorem State.xReg_past (s : State) (m : Mode) : (s.past m).xReg = s.xReg := by
  simp [State.xReg]

@[simp] theorem State.yReg_past (s : State) (m : Mode) : (s.past m).yReg = s.yReg := by
  simp [State.yReg]

/-! ### Past an operand that is read -/

/-- The state once the operand that an instruction reads is behind it: an immediate moves no register. -/
def State.pastSource (s : State) : Source → State
  | .imm _ => s
  | .mem m => s.past m

section PastSource

variable (s : State) (src : Source)

theorem State.pastSource_ip : (s.pastSource src).ip = sourceIp s src := by
  cases src <;> rfl

@[simp] theorem State.pastSource_pc : (s.pastSource src).pc = s.pc := by
  cases src with
  | imm _ => rfl
  | mem m => exact s.past_pc m

@[simp] theorem State.pastSource_p : (s.pastSource src).p = s.p := by
  cases src with
  | imm _ => rfl
  | mem m => exact s.past_p m

@[simp] theorem State.pastSource_free : (s.pastSource src).free = s.free := by
  cases src with
  | imm _ => rfl
  | mem m => exact s.past_free m

@[simp] theorem State.pastSource_mem : (s.pastSource src).mem = s.mem := by
  cases src with
  | imm _ => rfl
  | mem m => exact s.past_mem m

@[simp] theorem State.pastSource_wide : (s.pastSource src).wide = s.wide := by
  cases src with
  | imm _ => rfl
  | mem m => exact congrArg PrefixFlags.siz (s.past_pre m)

theorem State.onlyChanges_pastSource : OnlyChanges [.ip] s (s.pastSource src) := by
  cases src with
  | imm _ => exact fun f _ => by cases f <;> rfl
  | mem m => exact s.onlyChanges_past m

end PastSource

/-! ### Loads -/

/-- A load of a role from memory: reading the operand does not change which register the role is. -/
theorem State.reading_load {s : State} {m : Mode} {role : State → Reg} (hm : modeDefined m = true)
    (hrole : role (s.past m) = role s) :
    s.reading m (fun t v => t.load (role t) v) =
      .next (((s.past m).load (role s) (s.readOp s.wide (s.loc m))).retire (modeSize m)) := by
  rw [← hrole]
  exact State.reading_next.2 ⟨hm, rfl⟩

theorem exec_of_mem_loads {s : State} {src : Source} (hsrc : sourceDefined src = true) :
    ∀ e ∈ loads s src,
      exec e.1 s = .next (((s.pastSource src).load e.2 (sourceValue s src)).retire (sourceSize src)) := by
  cases src with
  | imm i =>
    simp only [loads, List.forall_mem_cons]
    exact ⟨rfl, rfl, rfl, rfl, List.forall_mem_nil _⟩
  | mem m =>
    simp only [loads, List.forall_mem_cons]
    exact ⟨State.reading_load (role := State.accReg) hsrc (s.accReg_past m),
      State.reading_load (role := State.xReg) hsrc (s.xReg_past m),
      State.reading_load (role := State.yReg) hsrc (s.yReg_past m),
      State.reading_load (role := fun _ => .sp) hsrc rfl, List.forall_mem_nil _⟩

theorem State.loaded_load_pastSource (s : State) (src : Source) (r : Reg) (v : Word) :
    Loaded s ((s.pastSource src).load r v) r (.of s.wide v) := by
  rw [← s.pastSource_wide src]
  exact ((s.pastSource src).loaded_load r v).of_free_eq (s.pastSource_free src)

theorem State.onlyChanges_load_pastSource (s : State) (src : Source) (r : Reg) (v : Word) :
    OnlyChanges [.ip, r.field s, .n, .z, .free] s ((s.pastSource src).load r v) := by
  rw [← Reg.field_congr (congrArg Psw.m (s.pastSource_p src))]
  exact (s.onlyChanges_pastSource src).trans (State.onlyChanges_load _ r v)

/-! ### Stores -/

theorem exec_of_mem_stores (s : State) (m : Mode) : ∀ e ∈ stores s m, exec e.1 s = s.writing m e.2 := by
  simp only [stores, List.forall_mem_cons]
  exact ⟨rfl, rfl, rfl, rfl, rfl, List.forall_mem_nil _⟩

/-! ### Transfers -/

theorem exec_of_mem_transfers (s : State) :
    ∀ e ∈ transfers s, exec e.1 s = (s.load e.2.1 (s.reg e.2.2)).done := by
  simp only [transfers, List.forall_mem_cons]
  exact ⟨rfl, rfl, rfl, rfl, List.forall_mem_nil _⟩

end Sys2Proof.Machine

namespace Sys2Proof

open Machine

/-- Settles O21: a load is `State.load` of the operand's value, in the state past the operand. -/
theorem loads : Obligations.Loads := by
  unfold Obligations.Loads
  intro s src i r hmem hsrc
  have hframe := (s.onlyChanges_load_pastSource src r (sourceValue s src)).trans
    (State.onlyChanges_retire _ (sourceSize src))
  exact ⟨_, exec_of_mem_loads hsrc (i, r) hmem, (s.loaded_load_pastSource src r _).retire _,
    (State.load_ip ..).trans (s.pastSource_ip src), completed_retire (by simp) _, hframe.mono (by simp),
    sameMemory_of_mem_eq (by simp)⟩

/-- Settles O22: a store is `State.writing` of its value, at two addresses that differ when it is a word. -/
theorem stores : Obligations.Stores := by
  unfold Obligations.Stores
  intro s m i v hmem hm hwf
  have hwrote := State.wroteOp_writeOp (s := s.past m) (by rwa [s.past_mem]) (wide := s.wide)
    (fun _ => s.loc_first_ne_second m) v
  have hframe := (s.onlyChanges_past m).trans (State.onlyChanges_writeOp (s.past m) s.wide (s.loc m) v)
  exact ⟨_, (exec_of_mem_stores s m (i, v) hmem).trans (State.writing_next.2 ⟨hm, rfl⟩),
    hwrote.congr (s.past_mem m).symm rfl, State.writeOp_ip .., completed_retire (by simp) _,
    hframe.trans (State.onlyChanges_retire _ _)⟩

/-- Settles O23: a transfer is `State.load` of the source register. -/
theorem transfers : Obligations.Transfers := by
  unfold Obligations.Transfers
  intro s i dst src hmem
  exact ⟨_, exec_of_mem_transfers s (i, dst, src) hmem, (s.loaded_load dst _).retire 1,
    completed_retire (s.load_pc ..) 1, (s.onlyChanges_load dst _).trans (State.onlyChanges_retire _ 1),
    sameMemory_of_mem_eq (s.load_mem ..)⟩

end Sys2Proof
end

section
/-!
SUPPORT. The transfers to and from a stack pointer (R355, R356, R365): the pointer that they reach, as one of the stack
pointers.
-/

namespace Sys2Proof.Machine

/-! ### The stack pointer of `txs`, `tsx`, `tas` and `tsa` -/

/-- Which stack pointer these instructions reach (R365). -/
def State.transferPtr (s : State) : StackPtr := if s.p.m && !s.pre.ind then .kernel else .user

theorem State.field_transferPtr (s : State) :
    s.transferPtr.field = if s.p.m && !s.pre.ind then .sk else .su :=
  apply_ite StackPtr.field _ _ _

/-- That pointer's value, in any state `t`: the mode and IND of `s` select it. -/
theorem State.sp_transferPtr (s t : State) :
    t.sp s.transferPtr = if s.p.m && !s.pre.ind then t.sk else t.su :=
  apply_ite t.sp _ _ _

theorem State.transferSp_eq_sp (s : State) : s.transferSp = s.sp s.transferPtr :=
  (s.sp_transferPtr s).symm

theorem State.setTransferSp_eq_setSp (s : State) (v : Word) : s.setTransferSp v = s.setSp s.transferPtr v := by
  unfold State.setTransferSp State.transferPtr
  split <;> rfl

@[simp] theorem State.sp_freeNZ (s : State) (k : StackPtr) : s.freeNZ.sp k = s.sp k := by
  cases k <;> rfl

theorem State.accReg_ne_sp (s : State) : s.accReg ≠ .sp := by
  unfold State.accReg
  split
  next => decide
  next => split <;> decide

/-- A load into a register that is not S draws no free value. -/
theorem State.onlyChanges_load_of_ne_sp {r : Reg} (h : r ≠ .sp) (s : State) (v : Word) :
    OnlyChanges [r.field s, .n, .z] s (s.load r v) := by
  rw [State.load, if_neg h]
  exact (s.onlyChanges_setReg r _).trans (State.onlyChanges_setNZ _ v)

theorem exec_txs {s : State} (h : s.pre.osx = false) :
    exec .txs s = .next ((s.setSp s.transferPtr ((Result.of s.wide (s.reg s.xReg)).word .sp)).retire 1) := by
  rw [← State.setTransferSp_eq_setSp]
  exact if_neg (by simp [h])

theorem exec_tsx {s : State} (h : s.pre.osx = false) :
    exec .tsx s =
      .next ((s.setReg s.xReg ((Result.of s.wide (s.sp s.transferPtr)).word s.xReg)).retire 1) := by
  rw [← State.transferSp_eq_sp]
  exact if_neg (by simp [h])

theorem exec_txs_tsx_of_osx {s : State} (h : s.pre.osx = true) :
    exec .txs s = .refused .osxTransfer ∧ exec .tsx s = .refused .osxTransfer :=
  ⟨if_pos h, if_pos h⟩

theorem exec_tas (s : State) :
    exec .tas s =
      .next ((s.setSp s.transferPtr ((Result.of s.wide (s.reg s.accReg)).word .sp)).freeNZ.retire 1) := by
  rw [← State.setTransferSp_eq_setSp]
  rfl

theorem exec_tsa (s : State) : exec .tsa s = .next ((s.load s.accReg (s.sp s.transferPtr)).retire 1) := by
  rw [← State.transferSp_eq_sp]
  rfl

/-- Settles O24: `txs` and `tas` write the pointer of R365, and `tsx` and `tsa` read it; only `tas` and `tsa` go on to
N and Z. -/
theorem stackPointerTransfers : Obligations.StackPointerTransfers := by
  unfold Obligations.StackPointerTransfers
  intro s
  simp only [← State.field_transferPtr, ← State.sp_transferPtr]
  refine ⟨fun hosx => ?txs, fun hosx => ?tsx, exec_txs_tsx_of_osx, ?tas, ?tsa⟩
  case txs =>
    exact ⟨_, exec_txs hosx, (State.sp_retire ..).trans (State.sp_setSp ..), completed_retire (s.setSp_pc ..) 1,
      (s.onlyChanges_setSp _ _).trans (State.onlyChanges_retire _ 1), sameMemory_of_mem_eq (s.setSp_mem ..)⟩
  case tsx =>
    exact ⟨_, exec_tsx hosx, (State.reg_retire ..).trans (State.reg_setReg ..), completed_retire (s.setReg_pc ..) 1,
      (s.onlyChanges_setReg _ _).trans (State.onlyChanges_retire _ 1), sameMemory_of_mem_eq (s.setReg_mem ..)⟩
  case tas =>
    have hframe := (s.onlyChanges_setSp s.transferPtr ((Result.of s.wide (s.reg s.accReg)).word .sp)).trans
      (State.onlyChanges_freeNZ _)
    exact ⟨_, exec_tas s, by simp, by simp [State.freeBit], by simp [State.freeBit], by simp,
      completed_retire (s.setSp_pc ..) 1, hframe.trans (State.onlyChanges_retire _ 1),
      sameMemory_of_mem_eq (s.setSp_mem ..)⟩
  case tsa =>
    exact ⟨_, exec_tsa s, (s.loaded_load s.accReg _).retire 1, completed_retire (s.load_pc ..) 1,
      (State.onlyChanges_load_of_ne_sp s.accReg_ne_sp s _).trans (State.onlyChanges_retire _ 1),
      sameMemory_of_mem_eq (s.load_mem ..)⟩

end Sys2Proof.Machine
end

section
/-!
SUPPORT. Logic, bit tests and bit changes (46_logical.md): accumulator logic is `State.load` of a value taken bit by bit;
`tsb` and `trb` test a value and write another to its place; and `rmbN` and `smbN` write one byte.
-/

namespace Sys2Proof.Machine

/-! ### Accumulator logic -/

@[simp] theorem State.reg_past (s : State) (m : Mode) (r : Reg) : (s.past m).reg r = s.reg r := by
  cases r <;> simp [State.reg, State.sys]

@[simp] theorem State.reg_pastSource (s : State) (src : Source) (r : Reg) : (s.pastSource src).reg r = s.reg r := by
  cases src with
  | imm _ => rfl
  | mem m => exact s.reg_past m r

@[simp] theorem State.accReg_pastSource (s : State) (src : Source) : (s.pastSource src).accReg = s.accReg := by
  cases src with
  | imm _ => rfl
  | mem m => exact s.accReg_past m

theorem LogicOp.apply_eq_logicBits (op : LogicOp) (l r : Word) : op.apply l r = logicBits op l r := by
  cases op <;> rfl

/-- Bit by bit, the low byte of the result is the result of the low bytes (R381). -/
theorem loByte_logicBits (op : LogicOp) (l r : Word) :
    loByte (logicBits op l r) = logicBits op (loByte l) (loByte r) := by
  cases op with
  | ora => exact BitVec.extractLsb'_or
  | and => exact BitVec.extractLsb'_and
  | eor => exact BitVec.extractLsb'_xor

theorem State.reading_logic {s : State} {m : Mode} (hm : modeDefined m = true) (op : LogicOp) :
    s.reading m (fun t v => t.logic op v) =
      .next (((s.past m).logic op (s.readOp s.wide (s.loc m))).retire (modeSize m)) :=
  State.reading_next.2 ⟨hm, rfl⟩

theorem exec_of_mem_logics {s : State} {src : Source} (hsrc : sourceDefined src = true) :
    ∀ e ∈ logics src,
      exec e.1 s = .next (((s.pastSource src).logic e.2 (sourceValue s src)).retire (sourceSize src)) := by
  cases src with
  | imm i =>
    simp only [logics, List.forall_mem_cons]
    exact ⟨rfl, rfl, rfl, List.forall_mem_nil _⟩
  | mem m =>
    simp only [logics, List.forall_mem_cons]
    exact ⟨State.reading_logic hsrc .ora, State.reading_logic hsrc .and, State.reading_logic hsrc .eor,
      List.forall_mem_nil _⟩

/-- Past its operand, accumulator logic loads the accumulator of the state before it. -/
theorem State.logic_pastSource (s : State) (src : Source) (op : LogicOp) (v : Word) :
    (s.pastSource src).logic op v = (s.pastSource src).load s.accReg (logicBits op (s.reg s.accReg) v) := by
  rw [State.logic, s.accReg_pastSource, s.reg_pastSource, LogicOp.apply_eq_logicBits]

theorem State.loaded_logic_pastSource (s : State) (src : Source) (op : LogicOp) (v : Word) :
    Loaded s ((s.pastSource src).logic op v) s.accReg
      { wide := s.wide
        r8 := logicBits op (loByte (s.reg s.accReg)) (loByte v)
        r16 := logicBits op (s.reg s.accReg) v } := by
  rw [s.logic_pastSource, ← loByte_logicBits]
  exact s.loaded_load_pastSource src _ _

/-- The accumulator role is never S, so accumulator logic draws no free value. -/
theorem State.onlyChanges_logic (s : State) (op : LogicOp) (v : Word) :
    OnlyChanges [s.accReg.field s, .n, .z] s (s.logic op v) :=
  State.onlyChanges_load_of_ne_sp s.accReg_ne_sp s _

theorem State.onlyChanges_logic_pastSource (s : State) (src : Source) (op : LogicOp) (v : Word) :
    OnlyChanges [.ip, s.accReg.field s, .n, .z] s ((s.pastSource src).logic op v) := by
  have hlogic := (s.pastSource src).onlyChanges_logic op v
  rw [s.accReg_pastSource, Reg.field_congr (congrArg Psw.m (s.pastSource_p src))] at hlogic
  exact (s.onlyChanges_pastSource src).trans hlogic

/-- Settles O25: accumulator logic is `State.load` of a value taken bit by bit, in the state past the operand. -/
theorem logic : Obligations.Logic := by
  unfold Obligations.Logic
  intro s src i op hmem hsrc
  have hframe := (s.onlyChanges_logic_pastSource src op (sourceValue s src)).trans
    (State.onlyChanges_retire _ (sourceSize src))
  exact ⟨_, exec_of_mem_logics hsrc (i, op) hmem, (s.loaded_logic_pastSource src op _).retire _,
    (State.load_ip ..).trans (s.pastSource_ip src),
    completed_retire ((State.load_pc ..).trans (s.pastSource_pc src)) _, hframe.mono (by simp),
    sameMemory_of_mem_eq ((State.logic_mem ..).trans (s.pastSource_mem src))⟩

/-! ### Bit tests -/

section BitTest

variable (s : State) (v : Word)

/-- Z of the accumulator and the operand (R390). -/
theorem State.testBits_z : (s.testBits v).p.z = (Result.of s.wide (s.reg s.accReg &&& v)).z :=
  isZero_eq_result_z _ _

theorem State.onlyChanges_testBits : OnlyChanges [.z] s (s.testBits v) := by
  intro f hf
  cases f with
  | z => simp at hf
  | _ => rfl

theorem State.onlyChanges_copyTopBits : OnlyChanges [.n, .v] s (s.copyTopBits v) := by
  intro f hf
  cases f with
  | n | v => simp at hf
  | _ => rfl

/-- Past its operand, a test takes Z from the accumulator of the state before it. -/
theorem State.testBits_past_z (m : Mode) :
    ((s.past m).testBits v).p.z = (Result.of s.wide (s.reg s.accReg &&& v)).z := by
  rw [State.testBits_z, s.accReg_past, s.reg_past, State.wide, s.past_pre]
  rfl

theorem State.onlyChanges_testBits_past (m : Mode) : OnlyChanges [.ip, .z] s ((s.past m).testBits v) :=
  (s.onlyChanges_past m).trans (State.onlyChanges_testBits _ v)

/-- The state after `bit` on memory, before the instruction ends (R390). -/
def State.bitTested (m : Mode) : State := ((s.past m).testBits v).copyTopBits v

theorem exec_bit {m : Mode} (hm : modeDefined m = true) :
    exec (.bit m) s = .next ((s.bitTested (s.readOp s.wide (s.loc m)) m).retire (modeSize m)) :=
  (State.reading_next (use := fun t v => (t.testBits v).copyTopBits v)).2 ⟨hm, rfl⟩

theorem exec_bitImm (imm : Imm) : exec (.bitImm imm) s = .next ((s.testBits imm.value).retire (1 + imm.size)) := rfl

/-- N and V are the operand's two top bits at the operation width (R390, log 31). -/
theorem State.bitTested_nv (m : Mode) :
    (s.bitTested v m).p.n = (Result.of s.wide v).n ∧
      (s.bitTested v m).p.v = if s.wide then v.getLsbD 14 else v.getLsbD 6 := by
  have hwide : ((s.past m).testBits v).wide = s.wide := congrArg PrefixFlags.siz (s.past_pre m)
  rw [← hwide, ← msb_eq_result_n]
  exact ⟨rfl, rfl⟩

theorem State.onlyChanges_bitTested (m : Mode) : OnlyChanges [.ip, .z, .n, .v] s (s.bitTested v m) :=
  (s.onlyChanges_testBits_past v m).trans (State.onlyChanges_copyTopBits _ v)

end BitTest

/-- Settles O26: both forms test the accumulator and the operand, and on memory N and V are copied from the operand. -/
theorem bitTests : Obligations.BitTests := by
  unfold Obligations.BitTests
  refine fun s => ⟨fun m hm => ?memory, fun imm => ?immediate⟩
  case memory =>
    obtain ⟨hn, hv⟩ := s.bitTested_nv (s.readOp s.wide (s.loc m)) m
    have hframe := (s.onlyChanges_bitTested (s.readOp s.wide (s.loc m)) m).trans
      (State.onlyChanges_retire _ (modeSize m))
    exact ⟨_, exec_bit s hm, s.testBits_past_z _ m, hn, hv, rfl, completed_retire (s.past_pc m) _,
      hframe.mono (by simp), sameMemory_of_mem_eq (s.past_mem m)⟩
  case immediate =>
    exact ⟨_, exec_bitImm s imm, s.testBits_z _, completed_retire rfl _,
      (s.onlyChanges_testBits _).trans (State.onlyChanges_retire _ _), sameMemory_of_mem_eq rfl⟩

/-! ### Test and modify -/

section TestModify

variable (s : State) (m : Mode) (v w : Word)

/-- The state after `v` is tested and `w` is written to the operand's place, before the instruction ends (R391, R392). -/
def State.testedModified : State :=
  ((s.past m).testBits v).writeOp s.wide (s.loc m) w

theorem State.testedModified_z : (s.testedModified m v w).p.z = (Result.of s.wide (s.reg s.accReg &&& v)).z :=
  (congrArg Psw.z (State.writeOp_p ..)).trans (s.testBits_past_z v m)

theorem State.testedModified_ip : (s.testedModified m v w).ip = (s.past m).ip :=
  State.writeOp_ip ..

theorem State.testedModified_pc : (s.testedModified m v w).pc = s.pc :=
  (State.writeOp_pc ..).trans (s.past_pc m)

theorem State.wroteOp_testedModified (hwf : s.mem.wf = true) :
    WroteOp s (s.testedModified m v w) s.wide (s.loc m) w := by
  have hmem : ((s.past m).testBits v).mem = s.mem := s.past_mem m
  exact (State.wroteOp_writeOp (by rwa [hmem]) (fun _ => s.loc_first_ne_second m) w).congr hmem.symm rfl

theorem State.onlyChanges_testedModified : OnlyChanges [.ip, .z] s (s.testedModified m v w) :=
  (s.onlyChanges_testBits_past v m).trans (State.onlyChanges_writeOp _ s.wide (s.loc m) w)

end TestModify

/-- An instruction that tests the value of its operand and writes another to the same place. -/
theorem exec_of_changing_testBits {i : Instr} {s : State} {m : Mode} {f : Word → Word}
    (hm : modeDefined m = true) (hwf : s.mem.wf = true) (h : exec i s = s.changing m f fun t v => t.testBits v) :
    let v := s.readOp s.wide (s.loc m)
    ∃ t, exec i s = .next t ∧ t.p.z = (Result.of s.wide (s.reg s.accReg &&& v)).z ∧
      WroteOp s t s.wide (s.loc m) (f v) ∧ t.ip = (s.past m).ip ∧ Completed s t (modeSize m) ∧
      OnlyChanges [.z, .ip, .pc, .pre] s t := by
  intro v
  have hexec : exec i s = .next ((s.testedModified m v (f v)).retire (modeSize m)) :=
    h.trans (State.changing_next.2 ⟨hm, rfl⟩)
  have hframe := (s.onlyChanges_testedModified m v (f v)).trans (State.onlyChanges_retire _ (modeSize m))
  exact ⟨_, hexec, s.testedModified_z m v (f v), (s.wroteOp_testedModified m v (f v) hwf).congr rfl rfl,
    s.testedModified_ip m v (f v), completed_retire (s.testedModified_pc m v (f v)) _, hframe.mono (by simp)⟩

/-- Settles O27: `tsb` and `trb` test the value read, and differ in the value that they write. -/
theorem testAndModify : Obligations.TestAndModify := by
  unfold Obligations.TestAndModify
  exact fun s m hm hwf =>
    ⟨exec_of_changing_testBits (f := (· ||| s.reg s.accReg)) hm hwf rfl,
      exec_of_changing_testBits (f := (· &&& ~~~ s.reg s.accReg)) hm hwf rfl⟩

/-! ### One bit of one byte -/

/-- A byte with bit `n` as given, as `rmbN` and `smbN` write it (R393, R394). -/
def withBit (v : Byte) (n : Nat) (b : Bool) : Byte := if b then v ||| bitMask n else v &&& ~~~ bitMask n

theorem bitMask_getLsbD {k : Nat} (hk : k < 8) (n : Nat) : (bitMask n).getLsbD k = decide (k = n) := by
  have hpow : (bitMask n).getLsbD k = (decide (n < 8) && decide (n = k)) := BitVec.getLsbD_twoPow n k
  rw [hpow, Bool.eq_iff_iff]
  simp only [Bool.and_eq_true, decide_eq_true_eq]
  omega

theorem withBit_getLsbD {k : Nat} (hk : k < 8) (v : Byte) (n : Nat) (b : Bool) :
    (withBit v n b).getLsbD k = if k = n then b else v.getLsbD k := by
  have hmask := bitMask_getLsbD hk n
  cases b with
  | true =>
    rw [withBit, if_pos rfl, BitVec.getLsbD_or, hmask]
    by_cases hkn : k = n <;> simp [hkn]
  | false =>
    rw [withBit, if_neg nofun, BitVec.getLsbD_and, BitVec.getLsbD_not, hmask]
    by_cases hkn : k = n <;> simp [hkn, hk]

theorem exec_of_mem_bitChanges (s : State) (zp : Byte) :
    ∀ e ∈ bitChanges zp,
      exec e.1 s =
        .next ((s.writeByte (s.bitAddress zp) (withBit (s.readByte (s.bitAddress zp)) e.2.1 e.2.2)).retire 2) := by
  simp only [bitChanges, List.forall_mem_cons]
  exact ⟨rfl, rfl, rfl, rfl, rfl, rfl, rfl, rfl, rfl, rfl, rfl, rfl, rfl, rfl, rfl, rfl, nofun⟩

end Sys2Proof.Machine

namespace Sys2Proof

open Machine

/-- Settles O28: the byte at the address of `zp` is written back with the one bit changed. -/
theorem bitChanges : Obligations.BitChanges := by
  unfold Obligations.BitChanges
  intro s zp i n b hmem hwf
  simp only [← s.bitAddress_eq]
  have hread (a : Word) := State.readByte_writeByte hwf (s.bitAddress zp) a
    (withBit (s.readByte (s.bitAddress zp)) n b)
  refine ⟨_, exec_of_mem_bitChanges s zp (i, n, b) hmem, fun k hk => ?bit, fun a ha => ?others,
    completed_retire rfl 2, (s.onlyChanges_writeByte _ _).trans (State.onlyChanges_retire _ 2)⟩
  case bit => exact (congrArg (BitVec.getLsbD · k) ((hread _).trans (if_pos rfl))).trans (withBit_getLsbD hk _ n b)
  case others => exact (hread a).trans (if_neg (by simpa using ha))

end Sys2Proof
end

section
/-!
SUPPORT. Results that the statements give as a byte and as a word: which of the two a computed word is, and what follows
for the register, for N and Z and for a written operand. Then shifts and rotates (47_shift_rotate.md).
-/

namespace Sys2Proof.Machine

/-! ### A word as a result -/

/-- Over the width of the result, the word is the result. -/
def Result.Holds (x : Result) (v : Word) : Prop := if x.wide then v = x.r16 else loByte v = x.r8

section Holds

variable {x : Result} {v : Word}

/-- What a word that is the result leaves in a register, in N and in Z. -/
theorem Result.Holds.of_eq (h : x.Holds v) :
    (∀ r, (Result.of x.wide v).word r = x.word r) ∧ (Result.of x.wide v).n = x.n ∧ (Result.of x.wide v).z = x.z := by
  obtain ⟨wide, r8, r16⟩ := x
  cases wide with
  | true =>
    obtain rfl : v = r16 := h
    exact ⟨fun _ => rfl, rfl, rfl⟩
  | false =>
    obtain rfl : loByte v = r8 := h
    exact ⟨fun _ => rfl, rfl, rfl⟩

theorem Result.Holds.psw (h : x.Holds v) (p : Psw) : (p.setNZ x.wide v).n = x.n ∧ (p.setNZ x.wide v).z = x.z := by
  obtain ⟨-, hn, hz⟩ := h.of_eq
  exact ⟨(msb_eq_result_n _ _).trans hn, (isZero_eq_result_z _ _).trans hz⟩

/-- A write at the operation width writes the result. -/
theorem Result.Holds.writeOp (h : x.Holds v) (s : State) (l : Loc) :
    s.writeOp x.wide l v = s.writeOp x.wide l (x.word .a) := by
  obtain ⟨wide, r8, r16⟩ := x
  cases wide with
  | true => exact congrArg (s.writePair l) h
  | false =>
    have hlow : loByte v = loByte (joinBytes 0x00 r8) := h.trans (loByte_joinBytes _ _).symm
    exact congrArg (s.writeByte l.first) hlow

end Holds

section Loaded

variable {s t u : State} {r : Reg} {x : Result} {v : Word}

/-- A load of a word that is the result loads the result. -/
theorem State.loaded_load_of_holds (hx : x.Holds v) (hwide : x.wide = s.wide) : Loaded s (s.load r v) r x := by
  obtain ⟨hword, hn, hz⟩ := hx.of_eq
  have hload := s.loaded_load r v
  rw [← hwide] at hload
  simpa only [Loaded, ResultFlags, hword, hn, hz] using hload

theorem Loaded.flags_of_ne_sp (h : Loaded s t r x) (hr : r ≠ .sp) :
    t.p.n = x.n ∧ t.p.z = x.z ∧ t.free = s.free := by
  obtain ⟨-, hflags⟩ := h
  rwa [ResultFlags, if_neg hr] at hflags

/-- A register reads the same under another P of the same mode. -/
theorem State.reg_setP {p : Psw} (hm : p.m = s.p.m) (r : Reg) : (s.setP p).reg r = s.reg r := by
  cases r with
  | a | x | y => rfl
  | sp => simp [State.reg, State.sys, hm]

theorem Loaded.setCV (h : Loaded s t r x) (c w : Bool) : Loaded s (t.setCV c w) r x := by
  obtain ⟨hreg, hflags⟩ := h
  exact ⟨(State.reg_setP rfl r).trans hreg, hflags⟩

theorem Loaded.setC (h : Loaded s t r x) (c : Bool) : Loaded s (t.setC c) r x :=
  h.setCV c t.p.v

end Loaded

/-! ### Frames of the flags -/

theorem State.onlyChanges_setC (s : State) (c : Bool) : OnlyChanges [.c] s (s.setC c) := by
  intro f hf
  cases f with
  | c => simp at hf
  | _ => rfl

theorem State.onlyChanges_setCV (s : State) (c v : Bool) : OnlyChanges [.c, .v] s (s.setCV c v) := by
  intro f hf
  cases f with
  | c | v => simp at hf
  | _ => rfl

theorem State.onlyChanges_freeV (s : State) : OnlyChanges [.v, .free] s s.freeV := by
  intro f hf
  cases f with
  | v | free => simp at hf
  | _ => rfl

/-! ### An operand changed in place -/

/-- Where memory is as before, a result written back to the operand's place is all that memory changes in. -/
theorem State.wroteOp_result {s u : State} {x : Result} {v : Word} (hwf : s.mem.wf = true) (hmem : u.mem = s.mem)
    (hx : x.Holds v) (hwide : x.wide = s.wide) (m : Mode) :
    WroteOp s (u.writeOp s.wide (s.loc m) v) s.wide (s.loc m) (x.word .a) := by
  rw [← hwide, hx.writeOp]
  exact (State.wroteOp_writeOp (by rwa [hmem]) (fun _ => s.loc_first_ne_second m) _).congr hmem.symm rfl

/-- An instruction that reads its memory operand, changes the pieces `fs` by it, and writes a result back. -/
theorem exec_of_changing {i : Instr} {s : State} {m : Mode} {f : Word → Word} {use : State → Word → State} {x : Result}
    {fs : List Field} (hm : modeDefined m = true) (hwf : s.mem.wf = true) (h : exec i s = s.changing m f use)
    (hmem : (use (s.past m) (s.readOp s.wide (s.loc m))).mem = (s.past m).mem)
    (hx : x.Holds (f (s.readOp s.wide (s.loc m)))) (hwide : x.wide = s.wide)
    (hframe : OnlyChanges fs (s.past m) (use (s.past m) (s.readOp s.wide (s.loc m))))
    (hfs : .ip ∉ fs ∧ .pc ∉ fs) :
    ∃ t, exec i s = .next t ∧ t.p = (use (s.past m) (s.readOp s.wide (s.loc m))).p ∧
      WroteOp s t s.wide (s.loc m) (x.word .a) ∧ t.ip = (s.past m).ip ∧ Completed s t (modeSize m) ∧
      OnlyChanges (.ip :: fs ++ [.pc, .pre]) s t := by
  obtain ⟨hip, hpc⟩ := hfs
  have hwrote := State.wroteOp_result hwf (hmem.trans (s.past_mem m)) hx hwide m
  have hall := (((s.onlyChanges_past m).trans hframe).trans (State.onlyChanges_writeOp _ s.wide (s.loc m)
    (f (s.readOp s.wide (s.loc m))))).trans (State.onlyChanges_retire _ (modeSize m))
  exact ⟨_, h.trans (State.changing_next.2 ⟨hm, rfl⟩), State.writeOp_p .., hwrote.congr rfl rfl,
    (State.writeOp_ip ..).trans (hframe .ip hip),
    completed_retire ((State.writeOp_pc ..).trans ((hframe .pc hpc).trans (s.past_pc m))) _, hall.mono (by simp)⟩

/-! ### Shifts at both widths -/

/-- At 8 bits the shifter works on the low byte, zero-extended. -/
theorem narrow_false (v : Word) : narrow false v = zext (loByte v) := rfl

theorem msb_zext (b : Byte) : msb false (zext b) = b.msb := by
  simp [msb, zext, BitVec.msb_eq_getLsbD_last]

theorem zext_getElem_zero (b : Byte) : (zext b)[0] = b[0] := by
  simp [zext]

theorem loByte_zext (b : Byte) : loByte (zext b) = b := by
  rw [← joinBytes_zero, loByte_joinBytes]

theorem zext_or (a b : Byte) : zext a ||| zext b = zext (a ||| b) :=
  BitVec.setWidth_or.symm

theorem zext_ushiftRight (b : Byte) : zext b >>> 1 = zext (b >>> 1) := by
  apply BitVec.eq_of_toNat_eq
  simp only [zext, BitVec.toNat_ushiftRight, BitVec.toNat_setWidth, Nat.shiftRight_eq_div_pow]
  omega

theorem narrow_zext_shiftLeft (b : Byte) : narrow false (zext b <<< 1) = zext (b <<< 1) := by
  have hlow : loByte (zext b <<< 1) = b <<< 1 := by
    apply BitVec.eq_of_toNat_eq
    simp [zext, loByte, BitVec.toNat_shiftLeft, Nat.shiftLeft_eq]
  rw [narrow_false, hlow]

/-- The bit that `rol` puts in the lowest place, at either width. -/
theorem lowBit_eq (c : Bool) :
    lowBit c = (BitVec.ofBool c).setWidth 16 ∧ lowBit c = zext ((BitVec.ofBool c).setWidth 8) := by
  cases c <;> exact ⟨rfl, rfl⟩

/-- The bit that the right shifts put in the top place, at either width. -/
theorem topBit_eq (c : Bool) :
    topBit true c = (BitVec.ofBool c).setWidth 16 <<< 15 ∧
      topBit false c = zext ((BitVec.ofBool c).setWidth 8 <<< 7) := by
  cases c <;> exact ⟨rfl, rfl⟩

/-- An arithmetic right shift by one is a logical one that puts the sign in the top place again (R433). -/
theorem sshiftRight_one {w : Nat} (v : BitVec (w + 1)) :
    v.sshiftRight 1 = v >>> 1 ||| (BitVec.ofBool v.msb).setWidth (w + 1) <<< w := by
  apply BitVec.eq_of_getLsbD_eq
  intro i hi
  simp only [BitVec.getLsbD_sshiftRight, BitVec.getLsbD_or, BitVec.getLsbD_ushiftRight, BitVec.getLsbD_shiftLeft,
    BitVec.getLsbD_setWidth, BitVec.getLsbD_ofBool]
  obtain hlt | rfl := Nat.lt_or_eq_of_le (Nat.le_of_lt_succ hi)
  · simp [hlt, hi, hlt.le, Nat.add_comm 1 i]
  · simp [Nat.add_comm 1]

theorem ShiftKind.apply_wide (k : ShiftKind) (c : Bool) (v : Word) :
    k.apply true c v = { value := (shiftBits k c v).1, carry := (shiftBits k c v).2 } := by
  obtain ⟨hlow, -⟩ := lowBit_eq c
  obtain ⟨htop, -⟩ := topBit_eq c
  obtain ⟨hsign, -⟩ := topBit_eq v.msb
  have hmsb : msb true v = v.msb := (BitVec.msb_eq_getLsbD_last v).symm
  cases k with
  | asl => simp [apply, shiftBits, narrow, hmsb]
  | rol => simp [apply, shiftBits, narrow, hmsb, hlow]
  | lsr => simp [apply, shiftBits, narrow]
  | ror => simp [apply, shiftBits, narrow, htop]
  | asr => simp [apply, shiftBits, narrow, hmsb, hsign, sshiftRight_one]

theorem ShiftKind.apply_narrow (k : ShiftKind) (c : Bool) (v : Word) :
    k.apply false c v =
      { value := zext (shiftBits k c (loByte v)).1, carry := (shiftBits k c (loByte v)).2 } := by
  obtain ⟨-, hlow⟩ := lowBit_eq c
  obtain ⟨-, htop⟩ := topBit_eq c
  obtain ⟨-, hsign⟩ := topBit_eq (loByte v).msb
  simp only [apply, narrow_false v, msb_zext]
  cases k with
  | asl => simp [shiftBits, narrow_zext_shiftLeft]
  | rol => simp [shiftBits, narrow_zext_shiftLeft, hlow, zext_or]
  | lsr => simp [shiftBits, zext_ushiftRight, zext_getElem_zero]
  | ror => simp [shiftBits, zext_ushiftRight, zext_getElem_zero, htop, zext_or]
  | asr => simp [shiftBits, zext_ushiftRight, zext_getElem_zero, hsign, zext_or, sshiftRight_one]

/-- A shift at the operation width, as a result (R425 to R428, R433). -/
def shiftResult (k : ShiftKind) (wide c : Bool) (v : Word) : Result where
  wide := wide
  r8 := (shiftBits k c (loByte v)).1
  r16 := (shiftBits k c v).1

/-- The bit shifted out at the operation width. -/
def shiftCarry (k : ShiftKind) (wide c : Bool) (v : Word) : Bool :=
  if wide then (shiftBits k c v).2 else (shiftBits k c (loByte v)).2

theorem ShiftKind.apply_eq (k : ShiftKind) (wide c : Bool) (v : Word) :
    (shiftResult k wide c v).Holds (k.apply wide c v).value ∧ (k.apply wide c v).carry = shiftCarry k wide c v := by
  cases wide with
  | true =>
    rw [k.apply_wide]
    exact ⟨rfl, rfl⟩
  | false =>
    rw [k.apply_narrow]
    exact ⟨loByte_zext _, rfl⟩

/-! ### Shifts of the accumulator -/

section ShiftAcc

variable (s : State) (k : ShiftKind)

theorem State.loaded_shiftAcc :
    Loaded s (s.shiftAcc k) s.accReg (shiftResult k s.wide s.p.c (s.reg s.accReg)) := by
  obtain ⟨hvalue, -⟩ := k.apply_eq s.wide s.p.c (s.reg s.accReg)
  exact (State.loaded_load_of_holds hvalue rfl).setC _

theorem State.shiftAcc_c : (s.shiftAcc k).p.c = shiftCarry k s.wide s.p.c (s.reg s.accReg) := by
  obtain ⟨-, hcarry⟩ := k.apply_eq s.wide s.p.c (s.reg s.accReg)
  exact hcarry

theorem State.shiftAcc_pc : (s.shiftAcc k).pc = s.pc :=
  s.load_pc ..

theorem State.onlyChanges_shiftAcc : OnlyChanges [s.accReg.field s, .n, .z, .c] s (s.shiftAcc k) :=
  (State.onlyChanges_load_of_ne_sp s.accReg_ne_sp s _).trans (State.onlyChanges_setC _ _)

end ShiftAcc

theorem exec_of_mem_shiftsAcc (s : State) : ∀ e ∈ shiftsAcc, exec e.1 s = (s.shiftAcc e.2).done := by
  simp only [shiftsAcc, List.forall_mem_cons]
  exact ⟨rfl, rfl, rfl, rfl, rfl, rfl, List.forall_mem_nil _⟩

/-- Settles O30: each is `State.shiftAcc` with its kind, which loads the shifted accumulator and then sets C. -/
theorem shiftAccumulator : Obligations.ShiftAccumulator := by
  unfold Obligations.ShiftAccumulator
  intro s i k hmem
  exact ⟨_, exec_of_mem_shiftsAcc s (i, k) hmem, (s.loaded_shiftAcc k).retire 1, s.shiftAcc_c k,
    completed_retire (s.shiftAcc_pc k) 1, (s.onlyChanges_shiftAcc k).trans (State.onlyChanges_retire _ 1),
    sameMemory_of_mem_eq (s.shiftAcc_mem k)⟩

theorem exec_of_mem_shiftsFreeV (s : State) :
    ∀ e ∈ [(Instr.aslAV, ShiftKind.asl), (.rolAV, .rol)], exec e.1 s = (s.shiftAcc e.2).freeV.done := by
  simp only [List.forall_mem_cons]
  exact ⟨rfl, rfl, List.forall_mem_nil _⟩

theorem State.freeV_p (s : State) : s.freeV.p = { s.p with v := Config.freeBit s.free } := rfl

theorem State.freeV_free (s : State) : s.freeV.free = s.free + 1 := rfl

theorem State.freeV_pc (s : State) : s.freeV.pc = s.pc := rfl

@[simp] theorem State.reg_freeV (s : State) (r : Reg) : s.freeV.reg r = s.reg r := by
  cases r <;> rfl

/-- Settles O31: the shift of O30, and then a free value in V. -/
theorem shiftWithFreeV : Obligations.ShiftWithFreeV := by
  unfold Obligations.ShiftWithFreeV
  intro s i k hmem
  have hloaded := s.loaded_shiftAcc k
  obtain ⟨hn, hz, hfree⟩ := hloaded.flags_of_ne_sp s.accReg_ne_sp
  obtain ⟨hreg, -⟩ := hloaded
  have hframe := ((s.onlyChanges_shiftAcc k).trans (State.onlyChanges_freeV _)).trans (State.onlyChanges_retire _ 1)
  refine ⟨(s.shiftAcc k).freeV.retire 1, exec_of_mem_shiftsFreeV s (i, k) hmem, ?reg, ?n, ?z, ?c, ?v, ?free,
    completed_retire ((State.freeV_pc _).trans (s.shiftAcc_pc k)) 1, hframe.mono (by simp),
    sameMemory_of_mem_eq ((State.freeV_mem _).trans (s.shiftAcc_mem k))⟩
  case reg => rwa [State.reg_retire, State.reg_freeV]
  case n => rwa [State.retire_p, State.freeV_p]
  case z => rwa [State.retire_p, State.freeV_p]
  case c => rw [State.retire_p, State.freeV_p]; exact s.shiftAcc_c k
  case v => rw [State.retire_p, State.freeV_p, hfree]
  case free => rw [State.retire_free, State.freeV_free, hfree]

/-! ### Shifts of memory -/

theorem exec_of_mem_shiftsMem (s : State) (m : Mode) : ∀ e ∈ shiftsMem m, exec e.1 s = s.shiftMem e.2 m := by
  simp only [shiftsMem, List.forall_mem_cons]
  exact ⟨rfl, rfl, rfl, rfl, List.forall_mem_nil _⟩

/-- Settles O32: the flags of the shifted operand, which is then written back. -/
theorem shiftMemory : Obligations.ShiftMemory := by
  unfold Obligations.ShiftMemory
  intro s m i k hmem hm hwf v
  obtain ⟨hvalue, hcarry⟩ := k.apply_eq s.wide s.p.c v
  have hframe := ((s.past m).onlyChanges_setNZ (k.apply s.wide s.p.c v).value).trans
    (State.onlyChanges_setC _ (k.apply s.wide s.p.c v).carry)
  obtain ⟨t, hexec, hp, hwrote, hip, hdone, hchanges⟩ :=
    exec_of_changing hm hwf (exec_of_mem_shiftsMem s m (i, k) hmem) rfl hvalue rfl hframe (by decide)
  have hwide : (s.past m).wide = s.wide := congrArg PrefixFlags.siz (s.past_pre m)
  rw [State.setC_p, State.setNZ_p, hwide] at hp
  obtain ⟨hn, hz⟩ := hvalue.psw (s.past m).p
  exact ⟨t, hexec, hwrote, (congrArg Psw.n hp).trans hn, (congrArg Psw.z hp).trans hz, (congrArg Psw.c hp).trans hcarry,
    hip, hdone, hchanges.mono (by simp)⟩

end Sys2Proof.Machine
end

section
/-!
SUPPORT. Sums and differences at both widths, and binary addition, subtraction and comparison (48_arithmetic.md).
-/

namespace Sys2Proof.Machine

/-! ### Differences as sums -/

section Bits

variable {w : Nat} (l r : BitVec (w + 1)) (c : Bool)

theorem setWidth_ofBool (c : Bool) : (BitVec.ofBool c).setWidth (w + 1) = BitVec.ofNat (w + 1) c.toNat := by
  rw [← BitVec.ofNat_toNat, BitVec.toNat_ofBool]

theorem toInt_not : (~~~ r).toInt = -r.toInt - 1 := by
  have hr := r.isLt
  have hnot : (~~~ r).toNat = 2 ^ (w + 1) - 1 - r.toNat := BitVec.toNat_not
  rw [BitVec.toInt_eq_toNat_cond, BitVec.toInt_eq_toNat_cond, hnot]
  rw [Nat.pow_succ] at *
  split <;> split <;> omega

/-- A difference is the sum with the complement (R440), the carry and the overflow included. -/
theorem diffBits_eq_sumBits : diffBits l r c = sumBits l (~~~ r) c := by
  have hvalue : l - r - BitVec.ofNat (w + 1) (!c).toNat = l + ~~~ r + BitVec.ofNat (w + 1) c.toNat := by
    rw [BitVec.not_eq_neg_add]
    cases c <;> simp [BitVec.sub_eq_add_neg, BitVec.add_assoc]
  have hcarry : ((r.toNat + (!c).toNat ≤ l.toNat) ↔ 2 ^ (w + 1) ≤ l.toNat + (~~~ r).toNat + c.toNat) := by
    have hr := r.isLt
    rw [BitVec.toNat_not]
    cases c <;> simp <;> omega
  have hint : l.toInt - r.toInt - ((!c).toNat : Int) = l.toInt + (~~~ r).toInt + (c.toNat : Int) := by
    rw [toInt_not]
    cases c <;> simp <;> omega
  simp only [diffBits, sumBits, setWidth_ofBool, hvalue, hcarry, hint]

theorem sumBits_value_toNat :
    (sumBits l r c).value.toNat = l.toNat + r.toNat + c.toNat ∨
      (sumBits l r c).value.toNat + 2 ^ (w + 1) = l.toNat + r.toNat + c.toNat := by
  have hl := l.isLt
  have hr := r.isLt
  have hc := c.toNat_le
  have hsum : (sumBits l r c).value.toNat = (l.toNat + r.toNat + c.toNat) % 2 ^ (w + 1) := by
    cases c <;> simp [sumBits, BitVec.toNat_add]
  obtain hlt | hge := Nat.lt_or_ge (l.toNat + r.toNat + c.toNat) (2 ^ (w + 1))
  · exact .inl (hsum.trans (Nat.mod_eq_of_lt hlt))
  · rw [Nat.mod_eq_sub_mod hge, Nat.mod_eq_of_lt (by omega)] at hsum
    omega

/-- Signed overflow (R441): both operands have one sign, and the sum has the other. -/
theorem sumBits_overflow :
    (sumBits l r c).overflow = ((l.msb == r.msb) && ((sumBits l r c).value.msb != l.msb)) := by
  have hl := l.isLt
  have hr := r.isLt
  have hc := c.toNat_le
  have hv := (sumBits l r c).value.isLt
  have hsum := sumBits_value_toNat l r c
  have hpow : (2 : Int) ^ w = ((2 ^ w : Nat) : Int) := by push_cast; rfl
  have hdef : (sumBits l r c).overflow = overflows (w + 1) (l.toInt + r.toInt + (c.toNat : Int)) := rfl
  rw [hdef, Bool.eq_iff_iff]
  simp only [overflows, BitVec.toInt_eq_toNat_cond, BitVec.msb_eq_decide, Bool.or_eq_true, Bool.and_eq_true,
    decide_eq_true_eq, beq_iff_eq, bne_iff_ne, ne_eq, decide_eq_decide, Nat.add_sub_cancel, hpow]
  rw [Nat.pow_succ] at *
  split <;> split <;> omega

end Bits

/-! ### The adder at both widths -/

theorem addWith_wide (l r : Word) (c : Bool) :
    addWith true l r c =
      { value := (sumBits l r c).value, carry := (sumBits l r c).carry, overflow := (sumBits l r c).overflow } := by
  have hvalue : BitVec.ofNat 16 ((l.toNat + r.toNat + c.toNat) % 65536) = (sumBits l r c).value := by
    apply BitVec.eq_of_toNat_eq
    cases c <;> simp [sumBits, BitVec.toNat_add]
  have hmsb (v : Word) : msb true v = v.msb := (BitVec.msb_eq_getLsbD_last v).symm
  simp only [addWith, narrow, modulus, if_true, hmsb, hvalue, sumBits_overflow]
  rfl

theorem addWith_narrow (l r : Word) (c : Bool) :
    addWith false l r c =
      { value := zext (sumBits (loByte l) (loByte r) c).value
        carry := (sumBits (loByte l) (loByte r) c).carry
        overflow := (sumBits (loByte l) (loByte r) c).overflow } := by
  have hvalue : BitVec.ofNat 16 (((loByte l).toNat + (loByte r).toNat + c.toNat) % 256) =
      zext (sumBits (loByte l) (loByte r) c).value := by
    apply BitVec.eq_of_toNat_eq
    cases c <;> simp [sumBits, zext, BitVec.toNat_add]
  have hmsb (v : Word) : msb false v = (loByte v).msb := msb_eq_result_n false v
  simp only [addWith, narrow_false, modulus, zext_toNat, hmsb, loByte_zext, Bool.false_eq_true, if_false, hvalue,
    sumBits_overflow]
  rfl

/-- What the adder gives for a sum, or for a difference (R440). -/
def sumOrDifference (wide sub : Bool) (l r : Word) (c : Bool) : Sum :=
  if sub then subWith wide l r c else addWith wide l r c

/-- A difference of either width is the sum with the complement. -/
theorem arith_sub (wide : Bool) (l r : Word) (c : Bool) : arith wide true l r c = arith wide false l (~~~ r) c := by
  have hlow : loByte (~~~ r) = ~~~ loByte r := BitVec.extractLsb'_not_of_lt (by decide)
  simp only [arith, hlow, diffBits_eq_sumBits]
  rfl

theorem sumOrDifference_eq (wide sub : Bool) (l r : Word) (c : Bool) :
    (arith wide sub l r c).result.Holds (sumOrDifference wide sub l r c).value ∧
      (sumOrDifference wide sub l r c).carry = (arith wide sub l r c).carry ∧
      (sumOrDifference wide sub l r c).overflow = (arith wide sub l r c).overflow := by
  have hadd (r : Word) : (arith wide false l r c).result.Holds (addWith wide l r c).value ∧
      (addWith wide l r c).carry = (arith wide false l r c).carry ∧
      (addWith wide l r c).overflow = (arith wide false l r c).overflow := by
    cases wide with
    | true =>
      rw [addWith_wide]
      exact ⟨rfl, rfl, rfl⟩
    | false =>
      rw [addWith_narrow]
      exact ⟨loByte_zext _, rfl, rfl⟩
  cases sub with
  | false => exact hadd r
  | true =>
    rw [arith_sub]
    exact hadd (~~~ r)


/-! ### Instructions that read an operand -/

/-- No register of R175 is IP or the pc. -/
theorem Reg.ip_pc_ne_field (s : State) (r : Reg) : Field.ip ≠ r.field s ∧ Field.pc ≠ r.field s := by
  cases r with
  | a | x | y => exact ⟨nofun, nofun⟩
  | sp =>
    rw [Reg.field]
    split <;> exact ⟨nofun, nofun⟩

/-- The end of an instruction that has read its operand and changed the pieces `fs` by it, but not memory. -/
theorem State.retire_pastSource {s u : State} {src : Source} {fs : List Field}
    (hframe : OnlyChanges fs (s.pastSource src) u) (hfs : .ip ∉ fs ∧ .pc ∉ fs)
    (hmem : u.mem = (s.pastSource src).mem) :
    let t := u.retire (sourceSize src)
    t.ip = sourceIp s src ∧ Completed s t (sourceSize src) ∧ OnlyChanges (.ip :: fs ++ [.pc, .pre]) s t ∧
      SameMemory s t := by
  obtain ⟨hip, hpc⟩ := hfs
  exact ⟨(hframe .ip hip).trans (s.pastSource_ip src),
    completed_retire ((hframe .pc hpc).trans (s.pastSource_pc src)) _,
    ((s.onlyChanges_pastSource src).trans hframe).trans (State.onlyChanges_retire _ _),
    sameMemory_of_mem_eq (hmem.trans (s.pastSource_mem src))⟩

theorem Reg.field_pastSource (s : State) (src : Source) (r : Reg) : r.field (s.pastSource src) = r.field s :=
  r.field_congr (congrArg Psw.m (s.pastSource_p src))

/-! ### Binary addition and subtraction -/

section TakeSum

variable (s : State) (sub : Bool) (v : Word) (c : Bool)

/-- The accumulator and its flags after a binary sum or difference (R441). -/
theorem State.takeSum_spec :
    let t := s.takeSum (sumOrDifference s.wide sub (s.reg s.accReg) v c)
    let x := arith s.wide sub (s.reg s.accReg) v c
    Loaded s t s.accReg x.result ∧ t.p.c = x.carry ∧ t.p.v = x.overflow := by
  obtain ⟨hvalue, hcarry, hoverflow⟩ := sumOrDifference_eq s.wide sub (s.reg s.accReg) v c
  exact ⟨(State.loaded_load_of_holds hvalue rfl).setCV _ _, hcarry, hoverflow⟩

theorem State.onlyChanges_takeSum (r : Sum) : OnlyChanges [s.accReg.field s, .n, .z, .c, .v] s (s.takeSum r) :=
  (State.onlyChanges_load_of_ne_sp s.accReg_ne_sp s _).trans (State.onlyChanges_setCV _ _ _)

end TakeSum

/-- `adc`, and `sbc` where `sub` is set, of an operand (R445, R446). -/
def State.addOrSub (s : State) (sub : Bool) (v : Word) : State := if sub then s.subCarry v else s.addCarry v

theorem exec_of_mem_addSubs {s : State} {src : Source} (hsrc : sourceDefined src = true) :
    ∀ e ∈ addSubs src,
      exec e.1 s = .next (((s.pastSource src).addOrSub e.2 (sourceValue s src)).retire (sourceSize src)) := by
  cases src with
  | imm i =>
    simp only [addSubs, List.forall_mem_cons]
    exact ⟨rfl, rfl, List.forall_mem_nil _⟩
  | mem m =>
    simp only [addSubs, List.forall_mem_cons]
    exact ⟨State.reading_next.2 ⟨hsrc, rfl⟩, State.reading_next.2 ⟨hsrc, rfl⟩, List.forall_mem_nil _⟩

/-- Without decimal mode, and at 16 bits, both are binary (R442, log 40). -/
theorem State.addOrSub_binary {s : State} (h : s.decimal = false) (sub : Bool) (v : Word) :
    s.addOrSub sub v = s.takeSum (sumOrDifference s.wide sub (s.reg s.accReg) v s.p.c) := by
  cases sub <;> simp [addOrSub, addCarry, subCarry, sumOrDifference, h]

theorem State.decimal_pastSource (s : State) (src : Source) : (s.pastSource src).decimal = s.decimal := by
  simp [State.decimal]

/-- Settles O33: past the operand, the accumulator takes the adder's result. -/
theorem binaryAddSub : Obligations.BinaryAddSub := by
  unfold Obligations.BinaryAddSub
  intro s src i sub hmem hsrc hbinary
  have hdecimal : (s.pastSource src).decimal = false := by
    rw [s.decimal_pastSource, State.decimal]
    obtain hd | hwide := hbinary
    · simp [hd]
    · simp [hwide]
  have hexec := exec_of_mem_addSubs (s := s) hsrc (i, sub) hmem
  obtain ⟨hloaded, hc, hv⟩ := (s.pastSource src).takeSum_spec sub (sourceValue s src) (s.pastSource src).p.c
  have hend := State.retire_pastSource ((s.pastSource src).onlyChanges_takeSum (sumOrDifference (s.pastSource src).wide
    sub ((s.pastSource src).reg (s.pastSource src).accReg) (sourceValue s src) (s.pastSource src).p.c))
    (by simp [Reg.ip_pc_ne_field]) (State.takeSum_mem ..)
  rw [State.addOrSub_binary hdecimal] at hexec
  simp only [s.accReg_pastSource, s.reg_pastSource, s.pastSource_wide, s.pastSource_p, Reg.field_pastSource]
    at hexec hloaded hc hv hend
  obtain ⟨hip, hdone, hframe, hsame⟩ := hend
  exact ⟨_, hexec, (hloaded.of_free_eq (s.pastSource_free src)).retire _, hc, hv, hip, hdone, hframe.mono (by simp),
    hsame⟩

end Sys2Proof.Machine
end

section
/-!
SUPPORT. Decimal addition and subtraction (R442): packed decimal bytes as numbers, and the results that are free values.
-/

namespace Sys2Proof.Machine

/-! ### Packed decimal bytes as numbers -/

theorem bcd_le {b : Byte} (h : bcdValid b = true) : bcd b ≤ 99 := by
  simp only [bcdValid, Bool.and_eq_true, decide_eq_true_eq] at h
  rw [bcd]
  omega

theorem toBcd_spec (n : Nat) : bcdValid (toBcd n) = true ∧ bcd (toBcd n) = n % 100 := by
  have hnat : (toBcd n).toNat = 16 * (n % 100 / 10) + n % 10 := by
    rw [toBcd, BitVec.toNat_ofNat]
    omega
  simp only [bcdValid, bcd, hnat, Bool.and_eq_true, decide_eq_true_eq]
  omega

/-- What decimal `adc`, and `sbc` where `sub` is set, give on valid operands (R442). -/
def decimalSum (sub : Bool) (l r : Byte) (c : Bool) : DecSum := if sub then decimalSub l r c else decimalAdd l r c

/-- The sum or the difference that packed decimal operands stand for, as a whole number (R442). -/
def decimalValue (sub : Bool) (l r : Byte) (c : Bool) : Int :=
  if sub then (bcd l : Int) - bcd r - (!c).toNat else (bcd l : Int) + bcd r + c.toNat

/-- On valid operands the result is the number modulo 100; the carry out is a sum of 100 or more, or no borrow. -/
theorem decimalSum_spec (sub : Bool) {l r : Byte} (hr : bcdValid r = true) (c : Bool) :
    bcdValid (decimalSum sub l r c).value = true ∧
      (bcd (decimalSum sub l r c).value : Int) = decimalValue sub l r c % 100 ∧
      (decimalSum sub l r c).carry =
        if sub then decide (0 ≤ decimalValue sub l r c) else decide (100 ≤ decimalValue sub l r c) := by
  cases sub with
  | false =>
    obtain ⟨hvalid, hvalue⟩ := toBcd_spec (bcd l + bcd r + c.toNat)
    have hint : decimalValue false l r c = ((bcd l + bcd r + c.toNat : Nat) : Int) := by simp [decimalValue]
    rw [hint]
    refine ⟨hvalid, ?_, decide_eq_decide.2 (by omega)⟩
    change (bcd (toBcd _) : Int) = _
    omega
  | true =>
    have hle := bcd_le hr
    have hborrow := (!c).toNat_le
    obtain ⟨hvalid, hvalue⟩ := toBcd_spec (100 + bcd l - bcd r - (!c).toNat)
    have hint : decimalValue true l r c = (bcd l : Int) - bcd r - (!c).toNat := rfl
    rw [hint]
    refine ⟨hvalid, ?_, decide_eq_decide.2 (by omega)⟩
    change (bcd (toBcd _) : Int) = _
    omega

/-! ### Decimal results in the state -/

@[simp] theorem State.reg_drawn (s : State) (k : Nat) (r : Reg) : (s.drawn k).reg r = s.reg r := by
  cases r <;> rfl

theorem State.onlyChanges_drawn (s : State) (k : Nat) : OnlyChanges [.free] s (s.drawn k) := by
  intro f hf
  cases f with
  | free => simp at hf
  | _ => rfl

section Take

variable (s : State)

/-- The accumulator and the flags after a decimal result; V is a free value (log 25). -/
theorem State.takeDecimal_spec (hwide : s.wide = false) (d : DecSum) :
    let t := s.takeDecimal d
    t.reg s.accReg = joinBytes 0x00 d.value ∧ t.p.n = d.value.msb ∧ t.p.z = decide (d.value = 0) ∧
      t.p.c = d.carry ∧ t.p.v = Config.freeBit s.free ∧ t.free = s.free + 1 := by
  have hholds : Result.Holds { wide := false, r8 := d.value, r16 := 0 } (zext d.value) := loByte_zext _
  have hloaded := (State.loaded_load_of_holds (r := s.accReg) hholds hwide.symm).setCV d.carry (s.freeBit 0)
  obtain ⟨hn, hz, hfree⟩ := hloaded.flags_of_ne_sp s.accReg_ne_sp
  obtain ⟨hreg, -⟩ := hloaded
  refine ⟨?_, hn, hz, rfl, rfl, congrArg (· + 1) hfree⟩
  rw [State.takeDecimal, State.reg_drawn, hreg, Result.word, if_neg s.accReg_ne_sp]
  rfl

/-- After invalid operands the result and the four flags are free values (log 26). -/
theorem State.takeInvalid_spec :
    let t := s.takeInvalid
    t.reg s.accReg = joinBytes 0x00 (loByte (Config.freeWord s.free)) ∧
      t.p.n = Config.freeBit s.free ∧ t.p.v = Config.freeBit (s.free + 1) ∧ t.p.z = Config.freeBit (s.free + 2) ∧
      t.p.c = Config.freeBit (s.free + 3) ∧ t.free = s.free + 4 := by
  refine ⟨?_, rfl, rfl, rfl, rfl, congrArg (· + 4) (s.setReg_free ..)⟩
  rw [State.takeInvalid, State.reg_drawn, State.reg_setP (by simp), State.reg_setReg, joinBytes_zero]
  rfl

theorem State.onlyChanges_takeDecimal (d : DecSum) :
    OnlyChanges [s.accReg.field s, .n, .z, .c, .v, .free] s (s.takeDecimal d) :=
  ((State.onlyChanges_load_of_ne_sp s.accReg_ne_sp s _).trans (State.onlyChanges_setCV _ _ _)).trans
    (State.onlyChanges_drawn _ 1)

theorem State.onlyChanges_nvzc (n v z c : Bool) :
    OnlyChanges [.n, .v, .z, .c] s (s.setP { s.p with n := n, v := v, z := z, c := c }) := by
  intro f hf
  cases f with
  | n | v | z | c => simp at hf
  | _ => rfl

theorem State.onlyChanges_takeInvalid :
    OnlyChanges [s.accReg.field s, .n, .v, .z, .c, .free] s s.takeInvalid := by
  have hreg := s.onlyChanges_setReg s.accReg (zext (loByte (s.freeWord 0)))
  have hflags := State.onlyChanges_nvzc (s.setReg s.accReg (zext (loByte (s.freeWord 0))))
    (s.freeBit 0) (s.freeBit 1) (s.freeBit 2) (s.freeBit 3)
  rw [State.setReg_p] at hflags
  exact (hreg.trans hflags).trans (State.onlyChanges_drawn _ 4)

end Take

/-! ### Decimal addition and subtraction -/

/-- Decimal mode at 8 bits: the operands choose between a decimal result and free values (R442). -/
theorem State.addOrSub_decimal {s : State} (h : s.decimal = true) (sub : Bool) (v : Word) :
    s.addOrSub sub v =
      if bcdValid (loByte (s.reg s.accReg)) && bcdValid (loByte v) then
        s.takeDecimal (decimalSum sub (loByte (s.reg s.accReg)) (loByte v) s.p.c)
      else s.takeInvalid := by
  cases sub <;> simp [addOrSub, addCarry, subCarry, decimalWith, decimalSum, h]

/-- What decimal `adc` and `sbc` leave in the accumulator, in the flags and of the free values. -/
theorem State.addOrSub_decimal_spec {s : State} (hd : s.p.d = true) (hwide : s.wide = false) (sub : Bool) (v : Word) :
    let l := loByte (s.reg s.accReg)
    let r := loByte v
    let e := decimalValue sub l r s.p.c
    let t := s.addOrSub sub v
    if bcdValid l && bcdValid r then
      (∃ d : Byte, t.reg s.accReg = joinBytes 0x00 d ∧ bcdValid d = true ∧ (bcd d : Int) = e % 100 ∧
        t.p.n = d.msb ∧ t.p.z = decide (d = 0)) ∧
      t.p.c = (if sub then decide (0 ≤ e) else decide (100 ≤ e)) ∧
      t.p.v = Config.freeBit s.free ∧ t.free = s.free + 1
    else
      t.reg s.accReg = joinBytes 0x00 (loByte (Config.freeWord s.free)) ∧
      t.p.n = Config.freeBit s.free ∧ t.p.v = Config.freeBit (s.free + 1) ∧
      t.p.z = Config.freeBit (s.free + 2) ∧ t.p.c = Config.freeBit (s.free + 3) ∧ t.free = s.free + 4 := by
  intro l r e t
  have ht := State.addOrSub_decimal (s := s) (by simp [State.decimal, hd, hwide]) sub v
  split
  next hvalid =>
    obtain ⟨-, hr⟩ := (Bool.and_eq_true ..).mp hvalid
    obtain ⟨hdigits, hvalue, hcarry⟩ := decimalSum_spec sub (l := l) hr s.p.c
    obtain ⟨hreg, hn, hz, hc, hv, hfree⟩ := s.takeDecimal_spec hwide (decimalSum sub l r s.p.c)
    rw [if_pos hvalid] at ht
    simp only [t, ht]
    exact ⟨⟨_, hreg, hdigits, hvalue, hn, hz⟩, hc.trans hcarry, hv, hfree⟩
  next hinvalid =>
    rw [if_neg hinvalid] at ht
    simp only [t, ht]
    exact s.takeInvalid_spec

theorem State.onlyChanges_addOrSub_decimal {s : State} (h : s.decimal = true) (sub : Bool) (v : Word) :
    OnlyChanges [s.accReg.field s, .n, .v, .z, .c, .free] s (s.addOrSub sub v) := by
  rw [State.addOrSub_decimal h]
  split
  next => exact (s.onlyChanges_takeDecimal _).mono (by simp)
  next => exact s.onlyChanges_takeInvalid

theorem State.addOrSub_mem (s : State) (sub : Bool) (v : Word) : (s.addOrSub sub v).mem = s.mem := by
  cases sub <;> simp [addOrSub]

/-- Settles O34: past the operand, the accumulator takes a decimal result or free values. -/
theorem decimalAddSub : Obligations.DecimalAddSub := by
  unfold Obligations.DecimalAddSub
  intro s src i sub hmem hsrc hd hwide
  have hdecimal : (s.pastSource src).decimal = true := by
    rw [s.decimal_pastSource, State.decimal, hd, hwide]
    rfl
  have hspec := State.addOrSub_decimal_spec (s := s.pastSource src) (by simpa using hd)
    (by simpa using hwide) sub (sourceValue s src)
  have hend := State.retire_pastSource (State.onlyChanges_addOrSub_decimal hdecimal sub (sourceValue s src))
    (by simp [Reg.ip_pc_ne_field]) (State.addOrSub_mem ..)
  simp only [s.accReg_pastSource, s.reg_pastSource, s.pastSource_p, s.pastSource_free, Reg.field_pastSource]
    at hspec hend
  obtain ⟨hip, hdone, hframe, hsame⟩ := hend
  refine ⟨_, exec_of_mem_addSubs hsrc (i, sub) hmem, ?_, hip, hdone, hframe.mono (by simp), hsame⟩
  simp only [State.reg_retire]
  exact hspec

end Sys2Proof.Machine
end

section
/-!
SUPPORT. Comparisons, the sums at IP, and increments and decrements (48_arithmetic.md).
-/

namespace Sys2Proof.Machine

/-! ### Comparisons -/

section Compare

variable (s : State) (r : Reg) (v : Word)

/-- N, Z and C are those of the difference, and V too at 16 bits (R447). -/
theorem State.compare_spec :
    let d := arith s.wide true (s.reg r) v true
    let t := s.compare r v
    t.p.n = d.result.n ∧ t.p.z = d.result.z ∧ t.p.c = d.carry ∧ t.p.v = if s.wide then d.overflow else s.p.v := by
  obtain ⟨hvalue, hcarry, hoverflow⟩ := sumOrDifference_eq s.wide true (s.reg r) v true
  obtain ⟨hn, hz⟩ := hvalue.psw s.p
  exact ⟨hn, hz, hcarry, congrArg (fun o => if s.wide then o else s.p.v) hoverflow⟩

theorem State.onlyChanges_compare : OnlyChanges [.n, .v, .z, .c] s (s.compare r v) :=
  s.onlyChanges_nvzc _ _ _ _

end Compare

/-- A comparison of a role with memory: reading the operand does not change which register the role is. -/
theorem State.reading_compare {s : State} {m : Mode} {role : State → Reg} (hm : modeDefined m = true)
    (hrole : role (s.past m) = role s) :
    s.reading m (fun t v => t.compare (role t) v) =
      .next (((s.past m).compare (role s) (s.readOp s.wide (s.loc m))).retire (modeSize m)) := by
  rw [← hrole]
  exact State.reading_next.2 ⟨hm, rfl⟩

theorem exec_of_mem_compares {s : State} {src : Source} (hsrc : sourceDefined src = true) :
    ∀ e ∈ compares s src,
      exec e.1 s = .next (((s.pastSource src).compare e.2 (sourceValue s src)).retire (sourceSize src)) := by
  cases src with
  | imm i =>
    simp only [compares, List.forall_mem_cons]
    exact ⟨rfl, rfl, rfl, rfl, List.forall_mem_nil _⟩
  | mem m =>
    simp only [compares, List.forall_mem_cons]
    exact ⟨State.reading_compare (role := State.accReg) hsrc (s.accReg_past m),
      State.reading_compare (role := State.xReg) hsrc (s.xReg_past m),
      State.reading_compare (role := State.yReg) hsrc (s.yReg_past m),
      State.reading_compare (role := fun _ => .sp) hsrc rfl, List.forall_mem_nil _⟩

/-- Settles O35: past the operand, the flags of the register less the operand, and nothing else. -/
theorem compare : Obligations.Compare := by
  unfold Obligations.Compare
  intro s src i r hmem hsrc
  have hspec := (s.pastSource src).compare_spec r (sourceValue s src)
  simp only [s.reg_pastSource, s.pastSource_wide, s.pastSource_p] at hspec
  obtain ⟨hn, hz, hc, hv⟩ := hspec
  obtain ⟨hip, hdone, hframe, hsame⟩ := State.retire_pastSource
    ((s.pastSource src).onlyChanges_compare r (sourceValue s src)) (by simp) (State.compare_mem ..)
  exact ⟨_, exec_of_mem_compares hsrc (i, r) hmem, hn, hz, hc, hv, hip, hdone, hframe.mono (by simp), hsame⟩

/-! ### Sums and differences at IP -/

section TakeUnruled

variable (s : State)

/-- Where no rule gives the result, the accumulator, C and V are free values, and N and Z follow (log 30). -/
theorem State.takeUnruled_spec :
    let x := Result.of s.wide (Config.freeWord s.free)
    let t := s.takeUnruled
    t.reg s.accReg = x.word s.accReg ∧ t.p.n = x.n ∧ t.p.z = x.z ∧ t.p.c = Config.freeBit s.free ∧
      t.p.v = Config.freeBit (s.free + 1) ∧ t.free = s.free + 2 := by
  have hloaded := (s.loaded_load s.accReg (s.freeWord 0)).setCV (s.freeBit 0) (s.freeBit 1)
  obtain ⟨hn, hz, hfree⟩ := hloaded.flags_of_ne_sp s.accReg_ne_sp
  obtain ⟨hreg, -⟩ := hloaded
  exact ⟨(State.reg_drawn ..).trans hreg, hn, hz, rfl, rfl, congrArg (· + 2) hfree⟩

theorem State.onlyChanges_takeUnruled :
    OnlyChanges [s.accReg.field s, .n, .z, .c, .v, .free] s s.takeUnruled :=
  ((State.onlyChanges_load_of_ne_sp s.accReg_ne_sp s _).trans (State.onlyChanges_setCV _ _ _)).trans
    (State.onlyChanges_drawn _ 2)

theorem State.onlyChanges_addPlain (r : Sum) :
    OnlyChanges [s.accReg.field s, .n, .z, .c, .v, .free] s (s.addPlain r) := by
  unfold State.addPlain
  split
  next => exact s.onlyChanges_takeUnruled
  next => exact (s.onlyChanges_takeSum r).mono (by simp)

/-- What `add` leaves in the accumulator and the flags, and `sub` where `sub` is set (R460, R461). -/
theorem State.addPlain_spec (sub : Bool) (v : Word) :
    let t := s.addPlain (sumOrDifference s.wide sub (s.reg s.accReg) v sub)
    let r := arith s.wide sub (s.reg s.accReg) v sub
    let any : Result := .of false (Config.freeWord s.free)
    if s.p.d && !s.wide then
      t.reg s.accReg = any.word s.accReg ∧ t.p.n = any.n ∧ t.p.z = any.z ∧
        t.p.c = Config.freeBit s.free ∧ t.p.v = Config.freeBit (s.free + 1) ∧ t.free = s.free + 2
    else Loaded s t s.accReg r.result ∧ t.p.c = r.carry ∧ t.p.v = r.overflow := by
  intro t r any
  split
  next hdecimal =>
    have ht : t = s.takeUnruled := if_pos hdecimal
    have hwide : s.wide = false := by
      obtain ⟨-, hnarrow⟩ := (Bool.and_eq_true ..).mp hdecimal
      simpa using hnarrow
    have hspec := s.takeUnruled_spec
    rwa [hwide, ← ht] at hspec
  next hbinary =>
    have ht : t = s.takeSum (sumOrDifference s.wide sub (s.reg s.accReg) v sub) := if_neg hbinary
    rw [ht]
    exact s.takeSum_spec sub v sub

end TakeUnruled

/-- The operand of `add` and `sub`: at IP, with the operand byte that has a meaning (R170). -/
abbrev operandAtIp : Source := .mem (.ip 0)

theorem exec_of_mem_addPlains (s : State) :
    ∀ e ∈ [(Instr.add 0, false), (.sub 0, true)],
      exec e.1 s = .next (((s.pastSource operandAtIp).addPlain
        (sumOrDifference s.wide e.2 (s.reg s.accReg) (sourceValue s operandAtIp) e.2)).retire 2) := by
  simp only [List.forall_mem_cons]
  exact ⟨rfl, rfl, List.forall_mem_nil _⟩

/-- Settles O36: past the operand at IP, `State.addPlain` of the sum or the difference. -/
theorem addSubAtIp : Obligations.AddSubAtIp := by
  unfold Obligations.AddSubAtIp
  intro s i sub hmem
  have hspec := (s.pastSource operandAtIp).addPlain_spec sub (sourceValue s operandAtIp)
  have hend := State.retire_pastSource ((s.pastSource operandAtIp).onlyChanges_addPlain
    (sumOrDifference s.wide sub (s.reg s.accReg) (sourceValue s operandAtIp) sub))
    (by simp [Reg.ip_pc_ne_field]) (State.addPlain_mem ..)
  simp only [s.accReg_pastSource, s.reg_pastSource, s.pastSource_wide, s.pastSource_p, s.pastSource_free,
    Reg.field_pastSource] at hspec hend
  obtain ⟨hip, hdone, hframe, hsame⟩ := hend
  refine ⟨_, exec_of_mem_addPlains s (i, sub) hmem, ?_, hip, hdone, hframe.mono (by simp), hsame⟩
  simp only [State.reg_retire]
  split
  next hdecimal => rwa [if_pos hdecimal] at hspec
  next hbinary =>
    rw [if_neg hbinary] at hspec
    obtain ⟨hloaded, hc, hv⟩ := hspec
    exact ⟨(hloaded.of_free_eq (s.pastSource_free operandAtIp)).retire 2, hc, hv⟩

/-! ### Increments and decrements -/

/-- A sum with a constant at the operation width, as a result. -/
def stepResult (wide : Bool) (v k : Word) : Result where
  wide := wide
  r8 := loByte v + loByte k
  r16 := v + k

theorem loByte_add (v k : Word) : loByte (v + k) = loByte v + loByte k := by
  apply BitVec.eq_of_toNat_eq
  simp [loByte_toNat, BitVec.toNat_add]

theorem stepResult_holds (wide : Bool) (v k : Word) : (stepResult wide v k).Holds (v + k) := by
  cases wide with
  | true => rfl
  | false => exact loByte_add v k

theorem exec_of_mem_stepsMem (s : State) (m : Mode) : ∀ e ∈ stepsMem m, exec e.1 s = s.stepMem m e.2 := by
  simp only [stepsMem, List.forall_mem_cons]
  exact ⟨rfl, rfl, List.forall_mem_nil _⟩

/-- Settles O37: N and Z of the sum, which is then written back. -/
theorem stepMemory : Obligations.StepMemory := by
  unfold Obligations.StepMemory
  intro s m i k hmem hm hwf v
  have hvalue := stepResult_holds s.wide v k
  obtain ⟨t, hexec, hp, hwrote, hip, hdone, hframe⟩ :=
    exec_of_changing hm hwf (exec_of_mem_stepsMem s m (i, k) hmem) rfl hvalue rfl
      ((s.past m).onlyChanges_setNZ (v + k)) (by decide)
  have hwide : (s.past m).wide = s.wide := congrArg PrefixFlags.siz (s.past_pre m)
  rw [State.setNZ_p, hwide] at hp
  obtain ⟨hn, hz⟩ := hvalue.psw (s.past m).p
  exact ⟨t, hexec, hwrote, (congrArg Psw.n hp).trans hn, (congrArg Psw.z hp).trans hz, hip, hdone,
    hframe.mono (by simp)⟩

theorem exec_of_mem_stepsReg (s : State) : ∀ e ∈ stepsReg s, exec e.1 s = (s.stepReg e.2.1 e.2.2).done := by
  simp only [stepsReg, List.forall_mem_cons]
  exact ⟨rfl, rfl, rfl, rfl, rfl, rfl, rfl, rfl, List.forall_mem_nil _⟩

theorem State.loaded_stepReg (s : State) (r : Reg) (k : Word) :
    Loaded s (s.stepReg r k) r (stepResult s.wide (s.reg r) k) :=
  State.loaded_load_of_holds (stepResult_holds s.wide (s.reg r) k) rfl

/-- `inc A` and `dec A` under IND, with the constant and the carry out of the sum (R466, log 45). -/
theorem exec_of_mem_stepsCarry (s : State) :
    ∀ e ∈ [(Instr.incAC, (1 : Word), (stepResult s.wide (s.reg s.accReg) 1).z),
        (.decAC, -1, !(Result.of s.wide (s.reg s.accReg)).z)],
      exec e.1 s = ((s.stepReg s.accReg e.2.1).setC e.2.2).done := by
  obtain ⟨-, -, hz⟩ := (stepResult_holds s.wide (s.reg s.accReg) 1).of_eq
  simp only [List.forall_mem_cons, ← hz, ← isZero_eq_result_z]
  exact ⟨rfl, rfl, List.forall_mem_nil _⟩

/-- Settles O38: each loads its register with the sum, and the two under IND then set C. -/
theorem stepRegisters : Obligations.StepRegisters := by
  unfold Obligations.StepRegisters
  refine fun s => ⟨fun i r k hmem => ?plain, fun i k c hmem => ?carry⟩
  case plain =>
    exact ⟨_, exec_of_mem_stepsReg s (i, r, k) hmem, (s.loaded_stepReg r k).retire 1, completed_retire (s.load_pc ..) 1,
      (s.onlyChanges_load r _).trans (State.onlyChanges_retire _ 1), sameMemory_of_mem_eq (s.stepReg_mem r k)⟩
  case carry =>
    have hframe := ((State.onlyChanges_load_of_ne_sp s.accReg_ne_sp s (s.reg s.accReg + k)).trans
      (State.onlyChanges_setC _ c)).trans (State.onlyChanges_retire _ 1)
    exact ⟨_, exec_of_mem_stepsCarry s (i, k, c) hmem, ((s.loaded_stepReg s.accReg k).setC c).retire 1, rfl,
      completed_retire (s.load_pc ..) 1, hframe.mono (by simp), sameMemory_of_mem_eq (s.stepReg_mem s.accReg k)⟩

end Sys2Proof.Machine
end

section
/-!
SUPPORT. Calls and returns (49_program_control.md): what `jsr` pushes, `rts` pulls, and a stack pointer that is stepped
down comes back up where it has room.
-/

namespace Sys2Proof.Machine

/-! ### Down and up again -/

/-- The pointer is locked to its page, or `n` steps down do not bring it into page 1 from above (R79). -/
def StackPtr.Room (k : StackPtr) (v : Word) (n : Nat) : Prop := k.locked v = true ∨ 0x0200 + n ≤ v.toNat

/-- With room for one step, a step down is undone by a step up, and room is left for the other steps. -/
theorem StackPtr.Room.step {k : StackPtr} {v : Word} {n : Nat} (h : k.Room v (n + 1)) :
    k.up (k.down v) = v ∧ k.Room (k.down v) n := by
  have hv := v.isLt
  cases hlocked : k.locked v with
  | true =>
    obtain ⟨hk, hpage⟩ := locked_iff.1 hlocked
    have hdown := down_toNat_locked hlocked
    have hlocked' : k.locked (k.down v) = true := locked_iff.2 ⟨hk, by omega⟩
    refine ⟨BitVec.eq_of_toNat_eq ?_, .inl hlocked'⟩
    rw [up_toNat_locked hlocked', hdown]
    omega
  | false =>
    have hroom : 0x0200 + (n + 1) ≤ v.toNat := h.resolve_left (by simp [hlocked])
    have hdown := down_toNat_plain hlocked
    have hlocked' : k.locked (k.down v) = false := by
      rw [Bool.eq_false_iff, Ne, locked_iff]
      omega
    refine ⟨BitVec.eq_of_toNat_eq ?_, .inr (by omega)⟩
    rw [up_toNat_plain hlocked', hdown]
    omega

/-- What changes a stack pointer and brings it back has not changed it. -/
theorem OnlyChanges.of_sp_eq {s t : State} {k : StackPtr} {fs : List Field} (h : OnlyChanges (k.field :: fs) s t)
    (hsp : t.sp k = s.sp k) : OnlyChanges fs s t := by
  intro f hf
  by_cases hk : f = k.field
  · exact hk ▸ StackPtr.field_same.2 hsp
  · exact h f (by simp [hk, hf])

/-! ### Calls and returns -/

section Call

variable {s : State}

@[simp] theorem State.sp_jump (s : State) (a : Word) (k : StackPtr) : (s.jump a).sp k = s.sp k := by
  cases k <;> rfl

/-- The address of the last byte of the call (R505). -/
theorem State.pcNext_sub_one (s : State) : s.pcNext 3 - 1 = s.pc + 2 := by
  rw [State.pcNext, add_sub_assoc]
  rfl

/-- The state after `jsr` (R505). -/
def State.called (s : State) (w : Word) : State :=
  let t := s.push16 s.stackPtr (s.pc + 2)
  t.jump (t.throughInd w)

theorem exec_jsr (s : State) (w : Word) : exec (.jsr w) s = .next (s.called w) := by
  rw [State.called, ← State.pcNext_sub_one]
  rfl

theorem State.pushed16_called (hwf : s.mem.wf = true) (w : Word) : Pushed16 s (s.called w) s.stackPtr (s.pc + 2) :=
  (State.pushed16 hwf s.stackPtr (s.pc + 2)).congr (State.sp_jump ..) rfl

theorem State.called_pc (s : State) (w : Word) :
    (s.called w).pc = if s.pre.ind then (s.called w).pointerAt w else w := by
  simp only [State.called, State.jump_pc, State.throughInd, State.push16_pre]
  rfl

theorem State.called_pre (s : State) (w : Word) : (s.called w).pre = .clear := rfl

theorem State.onlyChanges_called (s : State) (w : Word) : OnlyChanges [s.stackPtr.field, .pc, .pre] s (s.called w) :=
  (s.onlyChanges_push16 s.stackPtr _).trans (State.onlyChanges_jump _ _)

/-- The state after `rts` (R506). -/
def State.returned (s : State) : State := (s.pulled16 s.stackPtr).jump (pulledWord s s.stackPtr + 1)

theorem exec_rts (s : State) : exec .rts s = .next s.returned := by
  rw [State.returned, ← State.pull16_eq]
  rfl

theorem State.sp_returned (s : State) : s.returned.sp s.stackPtr = s.stackPtr.up (s.stackPtr.up (s.sp s.stackPtr)) :=
  (State.sp_jump ..).trans (s.sp_pulled16 _)

theorem State.onlyChanges_returned (s : State) : OnlyChanges [s.stackPtr.field, .pc, .pre] s s.returned :=
  (s.onlyChanges_pulled16 s.stackPtr).trans (State.onlyChanges_jump _ _)

theorem State.sameMemory_returned (s : State) : SameMemory s s.returned :=
  sameMemory_of_mem_eq (s.pulled16_mem s.stackPtr)

end Call

/-- Settles O42: what a call pushes and a return pulls. -/
theorem callAndReturn : Obligations.CallAndReturn := by
  unfold Obligations.CallAndReturn
  exact fun s w hwf =>
    ⟨⟨_, exec_jsr s w, State.pushed16_called hwf w, s.called_pc w, s.called_pre w, s.onlyChanges_called w⟩,
      ⟨_, exec_rts s, s.sp_returned, rfl, rfl, s.onlyChanges_returned, s.sameMemory_returned⟩⟩

/-- Settles O43: the return pulls the two bytes that the call has pushed. -/
theorem returnAfterCall : Obligations.ReturnAfterCall := by
  unfold Obligations.ReturnAfterCall
  intro s w hwf hosx hroom
  have hk : s.stackPtr = s.modePtr := by simp [State.stackPtr, hosx]
  have hk' : (s.called w).stackPtr = s.modePtr := by
    simp [State.stackPtr, State.modePtr, State.called, PrefixFlags.clear]
  obtain ⟨hsp, hhi, hlo, hrest⟩ := State.pushed16_called hwf w
  have hcall := s.onlyChanges_called w
  have hreturn := (s.called w).onlyChanges_returned
  have hup := (s.called w).sp_returned
  rw [hk] at hsp hhi hlo hrest hcall
  rw [hk'] at hreturn hup
  obtain ⟨hfirst, hroom'⟩ := StackPtr.Room.step (n := 1) hroom
  obtain ⟨hsecond, -⟩ := hroom'.step
  rw [hsp, hsecond, hfirst] at hup
  refine ⟨_, _, exec_jsr s w, exec_rts _, ?pc, rfl, (hcall.both hreturn).of_sp_eq hup,
    fun a ha => ((s.called w).sameMemory_returned a).trans (hrest a ha)⟩
  case pc =>
    have hword : pulledWord (s.called w) s.modePtr = s.pc + 2 := by
      rw [pulledWord, hsp, hsecond, hfirst, hhi, hlo, joinBytes_hiByte_loByte]
    rw [State.returned, State.jump_pc, hk', hword, BitVec.add_assoc]
    rfl

end Sys2Proof.Machine
end

section
/-!
SUPPORT. Traps, interrupts and the return from them (60_exceptions.md): the frame that an entry pushes, and `rti`, which
pulls it.
-/

namespace Sys2Proof.Machine

/-! ### Entry -/

/-- The second byte below is at another address too. -/
theorem StackPtr.down_down_ne (k : StackPtr) (v : Word) : k.down (k.down v) ≠ v := by
  intro heq
  have hnat := congrArg BitVec.toNat heq
  have hv := v.isLt
  cases hlocked : k.locked v with
  | true =>
    obtain ⟨hk, hpage⟩ := locked_iff.1 hlocked
    have hdown := down_toNat_locked hlocked
    rw [down_toNat_locked (locked_iff.2 ⟨hk, by omega⟩), hdown] at hnat
    omega
  | false =>
    have hdown := down_toNat_plain hlocked
    cases hlocked' : k.locked (k.down v) with
    | true =>
      rw [down_toNat_locked hlocked', hdown] at hnat
      omega
    | false =>
      rw [down_toNat_plain hlocked', hdown] at hnat
      omega

section Enter

variable {s : State} (ret : Word) (bit4 : Bool) (vector : Word)

/-- The state in which an entry has pushed its frame: the return value and P (R545). -/
def State.framePushed (s : State) (ret : Word) (bit4 : Bool) : State :=
  (s.push16 .kernel ret).push8 .kernel (s.p.toByte bit4)

theorem State.enter_eq (s : State) :
    s.enter ret bit4 vector =
      ((s.framePushed ret bit4).setP s.p.entered).jump ((s.framePushed ret bit4).pointerAt vector) := rfl

theorem State.sp_framePushed (s : State) :
    (s.framePushed ret bit4).sp .kernel =
      StackPtr.kernel.down (StackPtr.kernel.down (StackPtr.kernel.down (s.sp .kernel))) := by
  rw [State.framePushed, State.sp_push8, State.sp_push16]

theorem State.readByte_framePushed (hwf : s.mem.wf = true) (a : Word) :
    (s.framePushed ret bit4).readByte a =
      if a = StackPtr.kernel.down (StackPtr.kernel.down s.sk) then s.p.toByte bit4
      else if a = StackPtr.kernel.down s.sk then loByte ret else if a = s.sk then hiByte ret else s.readByte a := by
  have hsp : s.sp .kernel = s.sk := rfl
  rw [State.framePushed, State.readByte_push8 (State.wf_push16 hwf ..), State.sp_push16, State.readByte_push16 hwf, hsp]

/-- After the frame no byte of memory is written. -/
theorem State.sameMemory_enter (s : State) : SameMemory (s.framePushed ret bit4) (s.enter ret bit4 vector) := by
  rw [State.enter_eq]
  exact sameMemory_of_mem_eq rfl

/-- The pc is the word at the vector, also where the frame lies over it. -/
theorem State.enter_pc (s : State) : (s.enter ret bit4 vector).pc = (s.enter ret bit4 vector).pointerAt vector := by
  rw [State.pointerAt_eq, s.sameMemory_enter ret bit4 vector, s.sameMemory_enter ret bit4 vector, State.enter_eq]
  rfl

theorem State.enter_sk (s : State) :
    (s.enter ret bit4 vector).sk = StackPtr.kernel.down (StackPtr.kernel.down (StackPtr.kernel.down s.sk)) := by
  rw [State.enter_eq, State.jump_sk, State.setP_sk]
  exact s.sp_framePushed ret bit4

/-- What taking a trap or an interrupt leaves (R545). -/
theorem State.entered_enter (hwf : s.mem.wf = true) : Entered s (s.enter ret bit4 vector) ret bit4 vector := by
  have hread (a : Word) := (s.sameMemory_enter ret bit4 vector a).trans (State.readByte_framePushed ret bit4 hwf a)
  have hne := StackPtr.kernel.down_ne
  have hne' := StackPtr.kernel.down_down_ne
  refine ⟨s.enter_sk .., ?hi, ?lo, ?p, ?rest, s.enter_p .., s.enter_pre .., s.enter_pc ..⟩
  case hi => rw [hread, if_neg (hne' _).symm, if_neg (hne _).symm, if_pos rfl]
  case lo => rw [hread, if_neg (hne _).symm, if_pos rfl]
  case p =>
    rw [hread, if_pos rfl]
    exact s.p.isPByte_toByte bit4
  case rest =>
    intro a ha
    simp only [List.mem_cons, List.not_mem_nil, or_false, not_or] at ha
    obtain ⟨hfirst, hsecond, hthird⟩ := ha
    rw [hread, if_neg hthird, if_neg hsecond, if_neg hfirst]

theorem State.onlyChanges_setP_entered (s : State) : OnlyChanges [.m, .d, .i] s (s.setP s.p.entered) := by
  intro f hf
  cases f with
  | m | d | i => simp at hf
  | _ => rfl

theorem State.onlyChanges_enter : OnlyChanges [.sk, .m, .i, .d, .pc, .pre] s (s.enter ret bit4 vector) := by
  have hpushed : OnlyChanges [.sk] s (s.framePushed ret bit4) :=
    (s.onlyChanges_push16 .kernel ret).both (State.onlyChanges_push8 _ .kernel _)
  have hp := (s.framePushed ret bit4).onlyChanges_setP_entered
  have hsame : (s.framePushed ret bit4).p = s.p := by simp [State.framePushed]
  rw [hsame] at hp
  rw [State.enter_eq]
  exact ((hpushed.trans hp).trans (State.onlyChanges_jump _ _)).mono (by simp)

end Enter

/-- What `brk` adds to the address of its opcode (R520, log 32). -/
theorem brkOffset_eq (o : BrkOffset) : brkOffset o = if o = .one then 1 else 2 := by
  cases o <;> rfl

theorem exec_of_mem_unassigneds (s : State) : ∀ i ∈ unassigneds, exec i s = s.unassigned := by
  simp only [unassigneds, List.forall_mem_cons]
  exact ⟨rfl, rfl, rfl, rfl, List.forall_mem_nil _⟩

/-- The address that the trap of an unassigned opcode pushes is its own (log 42). -/
theorem State.pcNext_one_sub_one (s : State) : s.pcNext 1 - 1 = s.pc :=
  add_sub_cancel_right ..

/-- Settles O44: `brk`, and an unassigned opcode where it traps, are an entry. -/
theorem traps : Obligations.Traps := by
  unfold Obligations.Traps
  intro s hwf
  refine ⟨fun b => ?brk, fun i hi => ?unassigned⟩
  case brk =>
    rw [← brkOffset_eq]
    exact ⟨_, rfl, State.entered_enter _ _ _ hwf, State.onlyChanges_enter _ _ _⟩
  case unassigned =>
    have hexec := exec_of_mem_unassigneds s i hi
    cases hcfg : s.cfg.unusedOpcode with
    | nop1 => exact ⟨_, hexec.trans (State.unassigned_next.2 (.inl ⟨hcfg, rfl⟩)), fun _ => rfl, nofun⟩
    | invTrap =>
      have hnext := State.unassigned_next.2 (.inr ⟨hcfg, rfl⟩)
      rw [s.pcNext_one_sub_one] at hnext
      exact ⟨_, hexec.trans hnext, nofun, fun _ => ⟨State.entered_enter _ _ _ hwf, State.onlyChanges_enter _ _ _⟩⟩

/-! ### Interrupts -/

section Interrupt

variable {s : State} (r : IntRequest)

/-- An entry is told from S_K, memory, P, the flags of the prefixes and the pc. -/
theorem Entered.congr {s t u : State} {ret vector : Word} {bit4 : Bool} (h : Entered s t ret bit4 vector)
    (hsk : u.sk = t.sk) (hmem : u.mem = t.mem) (hp : u.p = t.p) (hpre : u.pre = t.pre) (hpc : u.pc = t.pc) :
    Entered s u ret bit4 vector := by
  simpa only [Entered, SameMemoryBut, State.pointerAt_eq, State.readByte, hsk, hmem, hp, hpre, hpc] using h

/-- An interrupt is an entry, after which the core runs. -/
theorem State.entered_takeInterrupt (hwf : s.mem.wf = true) :
    Entered s (s.takeInterrupt r) (s.pc - 1) false (s.vectorOf r) :=
  (State.entered_enter (s.pc - 1) false (s.vectorOf r) hwf).congr rfl rfl rfl rfl rfl

theorem State.takeInterrupt_run : (s.takeInterrupt r).run = .running := rfl

theorem State.onlyChanges_run (s : State) (run : RunState) : OnlyChanges [.run] s { s with run := run } := by
  intro f hf
  cases f with
  | run => simp at hf
  | _ => rfl

theorem State.onlyChanges_takeInterrupt :
    OnlyChanges [.sk, .m, .i, .d, .pc, .pre, .run] s (s.takeInterrupt r) :=
  (State.onlyChanges_enter (s.pc - 1) false (s.vectorOf r)).trans (State.onlyChanges_run _ _)

end Interrupt

/-- Settles O45: an interrupt is an entry through the vector of its request. -/
theorem interruptEntry : Obligations.InterruptEntry := by
  unfold Obligations.InterruptEntry
  refine fun s r hwf => ⟨State.entered_takeInterrupt r hwf, State.takeInterrupt_run r,
    State.onlyChanges_takeInterrupt r, fun v hv => ?_, fun hv hkind => ?_, fun hv hkind => ?_⟩
  · simp [State.vectorOf, hv]
  · simp [State.vectorOf, hv, hkind]
  · simp [State.vectorOf, hv, hkind]

/-! ### The return -/

section Return

variable (s : State) (k : StackPtr)

/-- What `rti` leaves in the pointer, in P and in the pc (R510, R551). -/
theorem State.returnFrom_values :
    let a1 := k.up (s.sp k)
    let a2 := k.up a1
    let a3 := k.up a2
    let t := s.returnFrom k
    t.sp k = a3 ∧ t.pc = joinBytes (s.readByte a3) (s.readByte a2) + 1 ∧ t.p = s.p.restore (s.readByte a1) ∧
      t.pre = .clear := by
  refine ⟨?sp, ?pc, ?p, rfl⟩
  case sp => simp [State.returnFrom]
  case pc => simp [State.returnFrom, State.pull16_eq, pulledWord]
  case p => simp [State.returnFrom, State.pull8_eq]

/-- P with every flag but the mode's as given, and the mode. -/
theorem State.onlyChanges_setP_all (p : Psw) :
    OnlyChanges [.n, .v, .m, .d, .i, .z, .c] s (s.setP p) := by
  intro f hf
  cases f with
  | n | v | m | d | i | z | c => simp at hf
  | _ => rfl

theorem State.onlyChanges_returnFrom :
    OnlyChanges [k.field, .n, .v, .m, .d, .i, .z, .c, .pc, .pre] s (s.returnFrom k) := by
  have hpull := (s.onlyChanges_pulled8 k).both (State.onlyChanges_pulled16 _ k)
  exact (hpull.trans (State.onlyChanges_setP_all _ _)).trans (State.onlyChanges_jump _ _)

theorem State.sameMemory_returnFrom : SameMemory s (s.returnFrom k) :=
  sameMemory_of_mem_eq (((s.pulled8 k).pulled16_mem k).trans (s.pulled8_mem k))

end Return

/-- Settles O46: `rti` is `State.returnFrom` the pointer that is selected before it. -/
theorem returnFromInterrupt : Obligations.ReturnFromInterrupt := by
  unfold Obligations.ReturnFromInterrupt
  intro s
  obtain ⟨hsp, hpc, hp, hpre⟩ := s.returnFrom_values s.stackPtr
  refine ⟨_, rfl, hsp, hpc, ?_, congrArg Psw.m hp, hpre, s.onlyChanges_returnFrom _, s.sameMemory_returnFrom _⟩
  rw [hp]
  exact s.p.isPByte_loadFlags _

/-! ### An interrupt and its return -/

/-- In Kernel mode `rti` restores the P whose byte it pulls (R510). -/
theorem Psw.restore_of_isPByte {p q : Psw} {b : Bool} {v : Byte} (hq : q.m = true) (h : IsPByte p b v) :
    q.restore v = p := by
  obtain ⟨hn, hv, hm, -, hd, hi, hz, hc⟩ := h
  simp only [Psw.restore, Psw.loadFlags, hq, hn, hv, hm, hd, hi, hz, hc, if_true]

/-- After an interrupt `rti` pulls with S_K: the core is in Kernel mode, with no flag of a prefix. -/
theorem exec_rti_takeInterrupt (s : State) (r : IntRequest) :
    exec .rti (s.takeInterrupt r) = .next ((s.takeInterrupt r).returnFrom .kernel) := rfl

/-- What the return from an interrupt finds in the three bytes of its frame. -/
theorem State.returnFrom_takeInterrupt {s : State} (r : IntRequest) (hwf : s.mem.wf = true)
    (hroom : StackPtr.kernel.Room s.sk 3) :
    let t := (s.takeInterrupt r).returnFrom .kernel
    t.sk = s.sk ∧ t.pc = s.pc ∧ t.p = s.p := by
  obtain ⟨hsk, hhi, hlo, hbyte, -, hp, -⟩ := State.entered_takeInterrupt r hwf
  obtain ⟨hup1, hroom1⟩ := hroom.step
  obtain ⟨hup2, hroom2⟩ := hroom1.step
  obtain ⟨hup3, -⟩ := hroom2.step
  have hsp : (s.takeInterrupt r).sp .kernel = _ := hsk
  obtain ⟨hsp', hpc', hp', -⟩ := (s.takeInterrupt r).returnFrom_values .kernel
  rw [hsp, hup3] at hsp' hpc' hp'
  rw [hup2] at hsp' hpc'
  rw [hup1] at hsp' hpc'
  rw [hhi, hlo, joinBytes_hiByte_loByte, BitVec.sub_add_cancel] at hpc'
  exact ⟨hsp', hpc', hp'.trans (Psw.restore_of_isPByte (congrArg Psw.m hp) hbyte)⟩

/-- Settles O47: `rti` pulls the frame that the interrupt has pushed. -/
theorem interruptThenReturn : Obligations.InterruptThenReturn := by
  unfold Obligations.InterruptThenReturn
  intro s r hwf hpre hroom
  obtain ⟨hsk, hpc, hp⟩ := State.returnFrom_takeInterrupt r hwf hroom
  obtain ⟨-, -, -, -, hrest, -⟩ := State.entered_takeInterrupt r hwf
  have hframe := (State.onlyChanges_takeInterrupt (s := s) r).trans
    ((s.takeInterrupt r).onlyChanges_returnFrom .kernel)
  have hrun : ((s.takeInterrupt r).returnFrom .kernel).run = .running :=
    (s.takeInterrupt r).onlyChanges_returnFrom .kernel .run (by decide)
  have hsame := (s.takeInterrupt r).sameMemory_returnFrom .kernel
  refine ⟨_, exec_rti_takeInterrupt s r, fun f hf => ?_, hrun, fun a ha => (hsame a).trans (hrest a ha)⟩
  cases f with
  | sk => exact hsk
  | pc => exact hpc
  | pre => exact (State.returnFrom_pre ..).trans hpre.symm
  | n => exact congrArg Psw.n hp
  | v => exact congrArg Psw.v hp
  | m => exact congrArg Psw.m hp
  | d => exact congrArg Psw.d hp
  | i => exact congrArg Psw.i hp
  | z => exact congrArg Psw.z hp
  | c => exact congrArg Psw.c hp
  | run => simp at hf
  | _ => exact hframe _ (by decide)

end Sys2Proof.Machine
end

section
/-!
SUPPORT. The boundary after an instruction (R533, R536), by the run state, and the reset sequence (R580 to R582).
-/

namespace Sys2Proof.Machine

/-! ### The set-overflow request -/

@[simp] theorem State.applySo_run (s : State) : s.applySo.run = s.run := by
  unfold State.applySo
  split <;> rfl

@[simp] theorem State.applySo_cfg (s : State) : s.applySo.cfg = s.cfg := by
  unfold State.applySo
  split <;> rfl

/-- Once V is set the request is acknowledged (R565). -/
theorem State.applySo_applySo (s : State) : s.applySo.applySo = s.applySo := by
  have hlatch : s.applySo.soLatch = false := by
    unfold State.applySo
    split
    next => rfl
    next h => exact Bool.eq_false_iff.2 h
  exact if_neg (by simp [hlatch])

/-! ### Interrupt points -/

/-- The opcodes after which no interrupt is taken: the prefixes, the branches, column F of the W65C02S variant, and the
jumps, the call and the two instructions that write I (R536). -/
theorem interruptPoint_eq_false_iff {v : Variant} {op : Byte} :
    interruptPoint v op = false ↔
      op ∈ ([0x8B, 0x9B, 0xAB, 0xBB, 0xEB, 0xFB] : List Byte) ∨
        op ∈ ([0x10, 0x30, 0x50, 0x70, 0x80, 0x90, 0xB0, 0xD0, 0xF0] : List Byte) ∨
        (v = .w65c02s ∧ op.toNat % 16 = 15) ∨
        op ∈ ([0x4C, 0x6C, 0x7C, 0x20, 0x78, 0x58] : List Byte) := by
  have hlist : uninterruptible = [0x8B, 0x9B, 0xAB, 0xBB, 0xEB, 0xFB] ++
    ([0x10, 0x30, 0x50, 0x70, 0x80, 0x90, 0xB0, 0xD0, 0xF0] ++ [0x4C, 0x6C, 0x7C, 0x20, 0x78, 0x58]) := rfl
  have hpoint : interruptPoint v op = false ↔ op ∈ uninterruptible ∨ (v = .w65c02s ∧ op.toNat % 16 = 15) := by
    cases v <;> simp [interruptPoint, imp_iff_not_or]
  rw [hpoint, hlist, List.mem_append, List.mem_append, or_assoc, or_assoc, or_comm (b := v = .w65c02s ∧ _)]

/-! ### The boundary by the run state -/

section Boundary

variable {s : State} {op : Byte} {inp : Inputs} {r : IntRequest}

theorem State.boundary_of_stopped (h : s.run = .stopped) : s.boundary op inp = s.applySo := by
  simp [State.boundary, h]

theorem State.boundary_of_waiting (h : s.run = .waiting) : s.boundary op inp = s.applySo.wait inp := by
  simp [State.boundary, h]

/-- No interrupt is taken where there is no point, or nothing to take. -/
theorem State.boundary_of_none (h : s.run = .running)
    (hnone : interruptPoint s.cfg.variant op = false ∨ s.interrupt? inp = none) : s.boundary op inp = s.applySo := by
  simp only [State.boundary, s.applySo_run, s.applySo_cfg, s.interrupt?_applySo, h]
  obtain hpoint | hint := hnone
  · rw [if_neg (by simp [hpoint])]
  · rw [hint, ite_self]

theorem State.boundary_of_taken (h : s.run = .running) (hpoint : interruptPoint s.cfg.variant op = true)
    (hint : s.interrupt? inp = some r) : s.boundary op inp = s.applySo.takeInterrupt r := by
  simp only [State.boundary, s.applySo_run, s.applySo_cfg, s.interrupt?_applySo, h, hint, hpoint, if_true]

end Boundary

/-- Settles O48: the boundary by the run state; a waiting core is in `State.wait` with the request applied. -/
theorem boundaryRules : Obligations.BoundaryRules := by
  unfold Obligations.BoundaryRules
  intro s op inp t blocked
  have hblocked : interruptPoint s.cfg.variant op = false ↔ blocked := interruptPoint_eq_false_iff
  have ht : t = s.applySo := rfl
  rw [ht]
  refine ⟨fun hrun => ⟨fun hb => ?blocked, fun hint => ?quiet, fun r hint hkind hi => ?masked,
    fun r hint hb hmask => ?taken⟩, State.boundary_of_stopped, fun hrun => ?waiting⟩
  case blocked => exact State.boundary_of_none hrun (.inl (hblocked.2 hb))
  case quiet => exact State.boundary_of_none hrun (.inr (s.interrupt?_of_no_request hint))
  case masked => exact State.boundary_of_none hrun (.inr (State.interrupt?_of_masked hint hkind hi))
  case taken =>
    exact State.boundary_of_taken hrun (Bool.eq_true_of_not_eq_false (mt hblocked.1 hb))
      (State.interrupt?_of_unmasked hint hmask)
  case waiting =>
    rw [State.boundary_of_waiting hrun]
    simp only [← s.applySo_i]
    have hno := fun hint => State.interrupt?_of_no_request (inp := inp) hint s.applySo
    refine ⟨fun hint hnone => ?_, fun hint hx hi => ?_, fun r hint hkind hi => ?_, fun r hint hmask => ?_⟩
    · exact State.wait_of_nothing (hno hint) (by rwa [anyMaskable_of_no_request hint])
    · rw [State.wait_of_masked (hno hint) ((anyMaskable_of_no_request hint).trans hx) hi, s.applySo_applySo]
    · rw [State.wait_of_masked (State.interrupt?_of_masked hint hkind hi) (anyMaskable_of_maskable hint hkind) hi,
        s.applySo_applySo]
    · rw [State.wait_of_unmasked hint hmask, s.applySo_applySo]

/-! ### Reset -/

theorem step_of_reset {s : State} (hrst : s.sample.rst = true) : step s = .next s.sampled.resetSequence := by
  simp [step, hrst]

/-- The reset sequence after its three pushes, which leave free values (R581). -/
def State.resetPushed (s : State) : State :=
  ((({ s with sk := 0x0102 } : State).push8 .kernel (loByte (s.freeWord 0))).push8 .kernel
    (loByte (s.freeWord 1))).push8 .kernel (loByte (s.freeWord 2))

/-- The reset sequence before P, the draws and the jump through VEC_RST. -/
def State.resetStarted (s : State) : State :=
  { s.resetPushed with
    su := s.freeWord 3, ip := s.freeWord 4, w := s.freeWord 5, run := .running, soLatch := false }

/-- P after the reset sequence (R581). -/
def State.resetP (s : State) : Psw where
  n := s.freeBit 0
  v := s.freeBit 1
  m := true
  d := false
  i := true
  z := s.freeBit 2
  c := s.freeBit 3

theorem State.resetSequence_eq (s : State) :
    s.resetSequence = ((s.resetStarted.setP s.resetP).drawn 6).jump (s.resetStarted.pointerAt s.cfg.vecRst) := rfl

theorem State.sp_resetPushed (s : State) : s.resetPushed.sp .kernel = 0x01FF := by
  have hdown : StackPtr.kernel.down (StackPtr.kernel.down (StackPtr.kernel.down 0x0102)) = 0x01FF := by decide
  rw [State.resetPushed, State.sp_push8, State.sp_push8, State.sp_push8]
  exact hdown

/-- The three bytes that a reset leaves unspecified; every other byte reads as before. -/
theorem State.readByte_resetPushed {s : State} (hwf : s.mem.wf = true) (a : Word) :
    s.resetPushed.readByte a =
      if a = 0x0100 then loByte (s.freeWord 2)
      else if a = 0x0101 then loByte (s.freeWord 1)
      else if a = 0x0102 then loByte (s.freeWord 0) else s.readByte a := by
  have hwf' : ({ s with sk := 0x0102 } : State).mem.wf = true := hwf
  have hstart : ({ s with sk := 0x0102 } : State).sp .kernel = 0x0102 := rfl
  have hfirst : StackPtr.kernel.down 0x0102 = 0x0101 := by decide
  have hsecond : StackPtr.kernel.down 0x0101 = 0x0100 := by decide
  rw [State.resetPushed, State.readByte_push8 (State.wf_push8 (State.wf_push8 hwf' _ _) _ _), State.sp_push8,
    State.sp_push8, State.readByte_push8 (State.wf_push8 hwf' _ _), State.sp_push8, State.readByte_push8 hwf', hstart,
    hfirst, hsecond]
  rfl

theorem State.onlyChanges_resetPushed (s : State) : OnlyChanges [.sk] s s.resetPushed := by
  have hstart : OnlyChanges [.sk] s { s with sk := 0x0102 } := s.onlyChanges_setSp .kernel 0x0102
  exact ((hstart.both (State.onlyChanges_push8 _ .kernel _)).both (State.onlyChanges_push8 _ .kernel _)).both
    (State.onlyChanges_push8 _ .kernel _)

theorem State.onlyChanges_resetStarted (s : State) :
    OnlyChanges [.su, .ip, .w, .run, .soLatch] s.resetPushed s.resetStarted := by
  intro f hf
  unfold State.resetStarted
  cases f with
  | su | ip | w | run | soLatch => simp at hf
  | _ => rfl

theorem State.onlyChanges_resetSequence (s : State) :
    OnlyChanges [.sk, .su, .ip, .w, .pc, .n, .v, .m, .d, .i, .z, .c, .pre, .run, .soLatch, .free] s
      s.resetSequence := by
  rw [State.resetSequence_eq]
  have hpushed := s.onlyChanges_resetPushed.trans s.onlyChanges_resetStarted
  have hp := (s.resetStarted.onlyChanges_setP_all s.resetP).trans (State.onlyChanges_drawn _ 6)
  exact ((hpushed.trans hp).trans (State.onlyChanges_jump _ _)).mono (by simp)

theorem State.resetSequence_free (s : State) : s.resetSequence.free = s.free + 6 := by
  have hpushed : s.resetPushed.free = s.free := s.onlyChanges_resetPushed .free (by decide)
  have hstarted : s.resetStarted.free = s.resetPushed.free := s.onlyChanges_resetStarted .free (by decide)
  rw [State.resetSequence_eq, State.jump_free, State.drawn_free, State.setP_free, hstarted, hpushed]

/-- After the pushes no byte of memory is written. -/
theorem State.sameMemory_resetSequence (s : State) : SameMemory s.resetPushed s.resetSequence := by
  rw [State.resetSequence_eq]
  exact sameMemory_of_mem_eq rfl

/-- Settles O50: the values that the reset sequence writes, and the three bytes that it pushes. -/
theorem resetSequence : Obligations.ResetSequence := by
  unfold Obligations.ResetSequence
  intro s hwf
  have hread (a : Word) := (s.sameMemory_resetSequence a).trans (State.readByte_resetPushed hwf a)
  refine ⟨step_of_reset, rfl, s.sp_resetPushed, rfl, rfl, rfl, rfl, rfl, rfl, rfl, s.resetSequence_free,
    hread 0x0102, hread 0x0101, hread 0x0100, s.onlyChanges_resetSequence, fun a ha => ?_⟩
  simp only [List.mem_cons, List.not_mem_nil, or_false, not_or] at ha
  obtain ⟨hthird, hsecond, hfirst⟩ := ha
  rw [hread, if_neg hthird, if_neg hsecond, if_neg hfirst]

end Sys2Proof.Machine
end
